-- ==== Sys2Proof/Word.lean ====
section
/-! DEFINITION. The words and the small records of the PPU block: a byte, a command word, an RGB value, a pixel
and an object-attribute entry. Rules R9, R14 of spec/00_scope.md, R52 of spec/10_state.md, R100 of spec/30_encoding.md. -/

namespace Sys2Proof

/-- One byte: a memory cell, a host-owned register, a colour channel. -/
abbrev Byte := BitVec 8

/-- One command word `cmd[31:0]` (R100, R101). -/
abbrev Word := BitVec 32

/-- The source tag of a pixel (R14). Its two-bit code on the command word is `Src.bits` (R103). -/
inductive Src where
  | blank
  | bg
  | win
  | spr
  deriving DecidableEq, Repr, Inhabited

/-- An RGB value: three 8-bit channels (R14). -/
structure Rgb where
  r : Byte
  g : Byte
  b : Byte
  deriving DecidableEq, Repr, Inhabited

/-- A pixel, the unit the Pipeline emits and the Renderer consumes (R14, R197). -/
structure Pixel where
  src  : Src
  idx  : BitVec 2
  pal  : Bool
  prio : Bool
  deriving DecidableEq, Repr, Inhabited

/-- What a sprite offers at one column: a colour index, a palette selector and a priority flag (R207). -/
structure Candidate where
  idx  : BitVec 2
  pal  : Bool
  prio : Bool
  deriving DecidableEq, Repr, Inhabited

/-- An object-attribute entry: the four bytes in the order of R52. -/
structure ObjEntry where
  y    : Byte
  x    : Byte
  tile : Byte
  attr : Byte
  deriving DecidableEq, Repr, Inhabited

end Sys2Proof
end

