-- ==== Sys2Proof/Syntax.lean ====
section
/-! DEFINITION. The eleven operations of the opcode map (R104 of spec/30_encoding.md), one constructor per row of
spec/opcode_table.json. Operands are the named fields of the row's format (R102, R103), already cut to their widths. -/

namespace Sys2Proof

/-- One operation. The first six are the external operations the host issues on the command port. The last five are
the internal strobes that only CLOCK issues (R104, R106). -/
inductive Instr where
  /-- CLOCK, format F, R131 of spec/40_scheduler.md. -/
  | clock (dma : Bool)
  /-- RESET, format N, R150 of spec/40_scheduler.md. -/
  | reset
  /-- RD_FRAMEREADY, format N, R152 of spec/40_scheduler.md. -/
  | rdFrameReady
  /-- RD_VBLANK, format N, R153 of spec/40_scheduler.md. -/
  | rdVBlank
  /-- SET_PALETTE, format P, R238 of spec/43_pixel_renderer.md. -/
  | setPalette (idx4 : BitVec 4) (r g b : Byte)
  /-- SET_MONO_PREF, format F, R239 of spec/43_pixel_renderer.md. -/
  | setMonoPref (pref : Bool)
  /-- SCAN, format F, R170 of spec/41_sprite_scanner.md. -/
  | scan (dma : Bool)
  /-- LOAD_SPRITES, format N, R176 of spec/41_sprite_scanner.md. -/
  | loadSprites
  /-- PIPE_CLOCK, format N, R192 of spec/42_pixel_pipeline.md. -/
  | pipeClock
  /-- WINDOW_VISIBLE, format N, R195 of spec/42_pixel_pipeline.md. -/
  | windowVisible
  /-- RENDER_PIXEL, format X, R230 of spec/43_pixel_renderer.md. -/
  | renderPixel (idx : BitVec 2) (src : Src) (pal prio : Bool)
  deriving DecidableEq, Repr, Inhabited

end Sys2Proof
end

