-- ==== Sys2Proof/WellFormed.lean ====
section
/-! DEFINITION. Two checks on an operation. `Instr.external` says whether the command port accepts it (R104, R106 of
spec/30_encoding.md). `Instr.wf` says whether it carries operands that some part of the block really passes: a format's
field widths are already in the types, so the only operand left to check is RENDER_PIXEL's pixel (R197, R198 of
spec/42_pixel_pipeline.md). No meaning depends on `Instr.wf`: every operand value has its effect. -/

namespace Sys2Proof

/-- The operation is one of the six external ones, which the command port accepts (R104). -/
def Instr.external : Instr → Bool
  | .clock _ => true
  | .reset => true
  | .rdFrameReady => true
  | .rdVBlank => true
  | .setPalette _ _ _ _ => true
  | .setMonoPref _ => true
  | .scan _ => false
  | .loadSprites => false
  | .pipeClock => false
  | .windowVisible => false
  | .renderPixel _ _ _ _ => false

/-- The pixel is one that PIPE_CLOCK can return: a blank pixel has colour index 0 (R198), and a pixel that is no sprite
pixel carries `pal = prio = 0` (R197). -/
def Pixel.wf (p : Pixel) : Bool :=
  match p.src with
  | .blank => p.idx == 0#2 && !p.pal && !p.prio
  | .bg => !p.pal && !p.prio
  | .win => !p.pal && !p.prio
  | .spr => true

/-- The operation carries operands that a part of the block really passes. -/
def Instr.wf : Instr → Bool
  | .clock _ => true
  | .reset => true
  | .rdFrameReady => true
  | .rdVBlank => true
  | .setPalette _ _ _ _ => true
  | .setMonoPref _ => true
  | .scan _ => true
  | .loadSprites => true
  | .pipeClock => true
  | .windowVisible => true
  | .renderPixel idx src pal prio => Pixel.wf { src := src, idx := idx, pal := pal, prio := prio }

end Sys2Proof
end

