-- ==== Sys2Proof/Decode.lean ====
section
/-! DEFINITION. The decoder and the encoder of command words (spec/30_encoding.md). The decoder is total on all 2^32
words (R110) and rejects a reserved opcode by name. It names the internal strobes too: that the command port does not
accept them is the port's affair (Machine/Step.lean, R106). -/

namespace Sys2Proof

/-- Why a word is no operation: its opcode is one of the reserved ones 0x0, 0x7, 0xD, 0xE, 0xF (R106). -/
inductive Reject where
  | reserved (op : BitVec 4)
  deriving DecidableEq, Repr

/-- The two-bit code of a source tag (R103). -/
def Src.bits : Src → BitVec 2
  | .blank => 0#2
  | .bg => 1#2
  | .win => 2#2
  | .spr => 3#2

/-- The source tag of a two-bit code (R103). -/
def Src.ofBits (v : BitVec 2) : Src :=
  match v.toNat with
  | 0 => .blank
  | 1 => .bg
  | 2 => .win
  | _ => .spr

/-- `op = cmd[3:0]`, in every format (R102). -/
def cmdOp (w : Word) : BitVec 4 := w.extractLsb' 0 4

/-- Format F: `flag = cmd[4]` (R102, R103). -/
def cmdFlag (w : Word) : Bool := w.getLsbD 4

/-- Format P: `idx4 = cmd[7:4]` (R102, R103). -/
def cmdIdx4 (w : Word) : BitVec 4 := w.extractLsb' 4 4

/-- Format P: `r = cmd[15:8]` (R102, R103). -/
def cmdR (w : Word) : Byte := w.extractLsb' 8 8

/-- Format P: `g = cmd[23:16]` (R102, R103). -/
def cmdG (w : Word) : Byte := w.extractLsb' 16 8

/-- Format P: `b = cmd[31:24]` (R102, R103). -/
def cmdB (w : Word) : Byte := w.extractLsb' 24 8

/-- Format X: `idx = cmd[5:4]` (R102, R103). -/
def cmdIdx (w : Word) : BitVec 2 := w.extractLsb' 4 2

/-- Format X: `src = cmd[7:6]` (R102, R103). -/
def cmdSrc (w : Word) : Src := Src.ofBits (w.extractLsb' 6 2)

/-- Format X: `pal = cmd[8]` (R102, R103). -/
def cmdPal (w : Word) : Bool := w.getLsbD 8

/-- Format X: `prio = cmd[9]` (R102, R103). -/
def cmdPrio (w : Word) : Bool := w.getLsbD 9

/-- The operation a word selects, by the opcode map of R104, or the name of its rejection. -/
def decode (w : Word) : Except Reject Instr :=
  match (cmdOp w).toNat with
  | 0x1 => .ok (.clock (cmdFlag w))
  | 0x2 => .ok .reset
  | 0x3 => .ok .rdFrameReady
  | 0x4 => .ok .rdVBlank
  | 0x5 => .ok (.setPalette (cmdIdx4 w) (cmdR w) (cmdG w) (cmdB w))
  | 0x6 => .ok (.setMonoPref (cmdFlag w))
  | 0x8 => .ok (.scan (cmdFlag w))
  | 0x9 => .ok .loadSprites
  | 0xA => .ok .pipeClock
  | 0xB => .ok .windowVisible
  | 0xC => .ok (.renderPixel (cmdIdx w) (cmdSrc w) (cmdPal w) (cmdPrio w))
  | _ => .error (.reserved (cmdOp w))

/-- The opcode of an operation (R104). -/
def Instr.opcode : Instr → BitVec 4
  | .clock _ => 0x1#4
  | .reset => 0x2#4
  | .rdFrameReady => 0x3#4
  | .rdVBlank => 0x4#4
  | .setPalette _ _ _ _ => 0x5#4
  | .setMonoPref _ => 0x6#4
  | .scan _ => 0x8#4
  | .loadSprites => 0x9#4
  | .pipeClock => 0xA#4
  | .windowVisible => 0xB#4
  | .renderPixel _ _ _ _ => 0xC#4

/-- A word of format N, its ignored bits 0 (R102). -/
def wordN (op : BitVec 4) : Word := 0#28 ++ op

/-- A word of format F, its ignored bits 0 (R102). -/
def wordF (flag : Bool) (op : BitVec 4) : Word := 0#27 ++ BitVec.ofBool flag ++ op

/-- A word of format P (R102). -/
def wordP (idx4 : BitVec 4) (r g b : Byte) (op : BitVec 4) : Word := b ++ g ++ r ++ idx4 ++ op

/-- A word of format X, its ignored bits 0 (R102). -/
def wordX (idx : BitVec 2) (src : Src) (pal prio : Bool) (op : BitVec 4) : Word :=
  0#22 ++ BitVec.ofBool prio ++ BitVec.ofBool pal ++ src.bits ++ idx ++ op

/-- The command word of an operation, with every ignored bit 0 (R102, R104). -/
def encode (i : Instr) : Word :=
  match i with
  | .clock dma => wordF dma i.opcode
  | .reset => wordN i.opcode
  | .rdFrameReady => wordN i.opcode
  | .rdVBlank => wordN i.opcode
  | .setPalette idx4 r g b => wordP idx4 r g b i.opcode
  | .setMonoPref pref => wordF pref i.opcode
  | .scan dma => wordF dma i.opcode
  | .loadSprites => wordN i.opcode
  | .pipeClock => wordN i.opcode
  | .windowVisible => wordN i.opcode
  | .renderPixel idx src pal prio => wordX idx src pal prio i.opcode

/-- The word the host's row number stands for: the low `nbits` bits of `w`, every higher bit 0. A command word is one
32-bit transaction and has no byte order (R76, R100), so bit 0 of the number is `cmd[0]`. -/
def tableWord (nbits w : Nat) : Word := BitVec.ofNat 32 (w % 2 ^ nbits)

/-- The operation the decoder reads from an opcode-table row's bits, none where it rejects them. -/
def decodeTableWord (nbits w : Nat) : Option Instr :=
  match decode (tableWord nbits w) with
  | .ok i => some i
  | .error _ => none

end Sys2Proof
end

