-- ==== Sys2Proof/Machine/Types.lean ====
section
/-! DEFINITION. The parts State is made of, in the four classes of R20 of spec/10_state.md: the Register File, the
block-internal state, the environment's inputs and the four memories; and the inputs the outside world can present. -/

namespace Sys2Proof.Machine

/-- The four video modes (R32). -/
inductive Mode where
  | hblank
  | vblank
  | objScan
  | xfer
  deriving DecidableEq, Repr, Inhabited

/-- The mode's code, as the Register File shows it (R32, R6). -/
def Mode.code : Mode → BitVec 2
  | .hblank => 0#2
  | .vblank => 1#2
  | .objScan => 2#2
  | .xfer => 3#2

/-- The Register File (R30). The block owns `ly`, `dot`, `mode` and `coin`. The host owns the rest (R20, R22).
`RF.STAT` is stored in its three parts and assembled by `RegFile.stat` (R32). -/
structure RegFile where
  /-- `RF.CTRL`, R31. -/
  ctrl   : Byte
  /-- `RF.STAT[7:3]`, carried and never touched by the block, R32, R43. -/
  statHi : BitVec 5
  /-- `RF.COIN = RF.STAT[2]`, R32. -/
  coin   : Bool
  /-- `RF.MODE = RF.STAT[1:0]`, R32. -/
  mode   : Mode
  /-- `RF.SCY`, R33. -/
  scy    : Byte
  /-- `RF.SCX`, R34. -/
  scx    : Byte
  /-- `RF.LY`, R35. -/
  ly     : Byte
  /-- `RF.LYC`, R36. -/
  lyc    : Byte
  /-- `RF.DOT`, R37. -/
  dot    : BitVec 9
  /-- `RF.BGP`, R38. -/
  bgp    : Byte
  /-- `RF.OBP0`, R39. -/
  obp0   : Byte
  /-- `RF.OBP1`, R40. -/
  obp1   : Byte
  /-- `RF.WY`, R41. -/
  wy     : Byte
  /-- `RF.WX`, R42. -/
  wx     : Byte
  deriving DecidableEq, Repr, Inhabited

/-- `RF.STAT`, the eight bits the host reads (R32): the host's five, the coincidence bit, the mode code. -/
def RegFile.stat (rf : RegFile) : Byte := rf.statHi ++ BitVec.ofBool rf.coin ++ rf.mode.code

/-- The block-internal state `S.*` (R20 class c, R44 to R57). -/
structure Block where
  /-- `S.PX`, R44. -/
  px            : Byte
  /-- `S.WLC`, R45. -/
  wlc           : Byte
  /-- `S.WY_LATCH`, R46. -/
  wyLatch       : Bool
  /-- `S.FRAME_READY`, R47. -/
  frameReady    : Bool
  /-- `S.VBLANK_ENTERED`, R48. -/
  vblankEntered : Bool
  /-- `S.CURSOR`, R49. -/
  cursor        : BitVec 15
  /-- `S.SEL[0..9]`, R50. -/
  sel           : Vector ObjEntry 10
  /-- `S.NSEL`, R50. -/
  nsel          : BitVec 4
  /-- `S.PIPE_SPR[0..9]`, R51. -/
  pipeSpr       : Vector ObjEntry 10
  /-- `S.NPIPE`, R51. -/
  npipe         : BitVec 4
  /-- `S.WIN_VIS`, R53. -/
  winVis        : Bool
  /-- `S.STALL_BUDGET`, R54. -/
  stallBudget   : Byte
  /-- `S.SHADE_RGB[0..3]`, R56. -/
  shadeRgb      : Vector Rgb 4
  /-- `S.MONO_PREF`, R57. -/
  monoPref      : Bool
  deriving DecidableEq, Repr, Inhabited

/-- The environment's inputs (R58). The `dma` flag is an operand of CLOCK and is not stored (R59). -/
structure Env where
  /-- `ENV.COLOR_MODE`. -/
  colorMode : Bool
  /-- `ENV.CPAL`, the opaque colour-mode palette store, held as a string of bytes of any length. -/
  cpal      : List Byte
  deriving DecidableEq, Repr, Inhabited

/-- One memory: the bytes something has written since power-on, at strictly rising addresses. An address that is not
listed holds no written byte. -/
abbrev Memory := List Host.Cell

/-- The four address spaces (R70). -/
inductive Space where
  | oam
  | vram0
  | vram1
  | fb
  deriving DecidableEq, Repr, Inhabited

/-- The four memories (R60, R70), each its own address space. -/
structure Mems where
  oam   : Memory
  vram0 : Memory
  vram1 : Memory
  fb    : Memory
  deriving DecidableEq, Repr, Inhabited

/-- What `ColorPath` may read beside the pixel (R233): the column `S.PX`, the Register File, `ENV.CPAL`, the contents of
both tile-memory banks and the Pipeline's sprites. It is an argument of a parameter, no part of State. -/
structure ColorInput where
  px      : Byte
  rf      : RegFile
  cpal    : List Byte
  vram0   : Fin 8192 → Byte
  vram1   : Fin 8192 → Byte
  pipeSpr : Vector ObjEntry 10
  npipe   : BitVec 4

/-- What the host may do between two commands (R276): write a host-owned register, a byte of a host-owned memory or an
environment input. It has no move that writes a block-owned element (R277). `powerCycle` is the power-off/power-on cycle
of the emulated console (R261, R271). -/
inductive HostMove where
  | ctrl      (v : Byte)
  | statHi    (v : BitVec 5)
  | scy       (v : Byte)
  | scx       (v : Byte)
  | lyc       (v : Byte)
  | bgp       (v : Byte)
  | obp0      (v : Byte)
  | obp1      (v : Byte)
  | wy        (v : Byte)
  | wx        (v : Byte)
  | colorMode (v : Bool)
  | cpal      (v : List Byte)
  | oam       (a : Fin 160) (v : Byte)
  | vram0     (a : Fin 8192) (v : Byte)
  | vram1     (a : Fin 8192) (v : Byte)
  | powerCycle
  deriving DecidableEq, Repr

/-- One item of the outside world's script (R290): a word on the command port, or a host move. -/
inductive Input where
  | cmd  (w : Word)
  | host (m : HostMove)
  deriving DecidableEq, Repr

end Sys2Proof.Machine
end

