-- ==== Sys2Proof/Config.lean ====
section
/-! DEFINITION. The open parameters of the spec (R7 of spec/00_scope.md) and the values it leaves unspecified
(spec/93_implementation_defined.md). Each is a constant without a body: nothing can evaluate it, and a claim that holds
holds whatever its value. -/

namespace Sys2Proof.Config

open Sys2Proof.Machine

/-- `SHADE_RGB_DEFAULT[0..3]` (R7, R56, U4): the power-on content of the shade table. -/
opaque shadeRgbDefault : Fin 4 → Rgb

/-- `MONO_PREF_DEFAULT` (R7, R57, U5): the power-on value of the monochrome preference. -/
opaque monoPrefDefault : Bool

/-- `ColorPath` (R233, U1): the RGB value of a pixel on the colour-capable path, a total function of the pixel and of
what R233 lets it read. -/
opaque colorPath : Pixel → ColorInput → Rgb

/-- `FetchTiming` (R13, R192, R193, U2): the free choice `draw(stall)` of one PIPE_CLOCK strobe. The first argument
numbers the strobe, and the choice may depend on the rest of the machine in any way. -/
opaque fetchTiming : Nat → RegFile → Block → Env → Mems → Bool

/-- U3: what a sprite whose shown row lies outside its height offers at a column. The arguments are the number of the
strobe, the slot and the machine. -/
opaque staleCandidate : Nat → Nat → RegFile → Block → Env → Mems → Option Candidate

/-- The pixel of a strobe that yields at a column past 159, where R196 of spec/42_pixel_pipeline.md gives `Compose(x)` no
value and R250 of spec/60_exceptions.md has the operation go on. The arguments are the number of the strobe and the
machine. -/
opaque pixelPastLine : Nat → RegFile → Block → Env → Mems → Pixel

/-- U7, U8: the byte at an address that nothing has written since the given power-on. -/
opaque powerOnByte : Nat → Space → Nat → Byte

/-- U6, U18: the Register File after the given power-on, before anything writes it. R275 of spec/70_reset_and_hazards.md
gives the host-owned registers no initial value, so each is free until the host writes it. -/
opaque powerOnRegs : Nat → RegFile

/-- U6, U18: the block-internal state after the given power-on, before RESET. -/
opaque powerOnBlock : Nat → Block

/-- U6, U18, R275: the environment's inputs after the given power-on, before the host writes them. -/
opaque powerOnEnv : Nat → Env

end Sys2Proof.Config
end

