-- ==== Sys2Proof/Machine/State.lean ====
section
/-! DEFINITION. The state of the machine, its faults and refusals, and the state after reset (R20 to R62 of
spec/10_state.md, R271 of spec/70_reset_and_hazards.md). -/

namespace Sys2Proof.Machine

/-- Why a step stops with a fault. -/
inductive Fault where
  /-- CLOCK, RD_FRAMEREADY or RD_VBLANK came after a power-on and before the first RESET. Raised by their meanings. Safe:
  spec/93_implementation_defined.md U6 names this a fault. -/
  | beforeReset
  /-- RENDER_PIXEL with `S.CURSOR == 23040`, which R236 of spec/43_pixel_renderer.md calls unreachable and U17 of
  spec/93_implementation_defined.md a fault. Raised by RENDER_PIXEL, and by CLOCK through it. Safe: no run from reset meets
  it. -/
  | cursorOverrun
  deriving DecidableEq, Repr

/-- Why a step gives an operation no meaning. -/
inductive Refusal where
  /-- The operation has no meaning yet: raised by an arm of `exec` only. Safe. No arm of this model raises it. -/
  | notModelled (mnemonic : String)
  deriving DecidableEq, Repr

/-- The whole machine. The first four fields are the spec's state (R20). `rdata`, `winWire` and `pixWire` are the results
of R107. The remaining fields are the model's own. -/
structure State where
  /-- The Register File `RF.*`. -/
  rf         : RegFile
  /-- The block-internal state `S.*`. -/
  blk        : Block
  /-- The environment's inputs `ENV.*`. -/
  env        : Env
  /-- The memories `OAM`, `VRAM0`, `VRAM1`, `FB`. -/
  mem        : Mems
  /-- The result `rdata` of the last command (R100, R107). -/
  rdata      : Bool
  /-- The internal wire with the result of the last PIPE_CLOCK strobe run on its own (R107, R192), `none` between commands. -/
  pixWire    : Option Pixel
  /-- The internal wire with the result of the last WINDOW_VISIBLE strobe run on its own (R107, R195), false between
  commands. -/
  winWire    : Bool
  /-- What the outside world will present next, in order (R81, R290). -/
  pending    : List Input
  /-- A word on the internal strobe wires, `none` at every point between commands (R104, R106). -/
  strobe     : Option Word
  /-- A power-on has happened and no RESET since (R271, R274). -/
  awaitReset : Bool
  /-- How many PIPE_CLOCK strobes have run: it numbers the free choices of `Config.fetchTiming`. -/
  draws      : Nat
  /-- How many power cycles have happened: it numbers the free values of a power-on. -/
  epoch      : Nat
  deriving DecidableEq, Repr

/-- The Register File after reset: R61's values for the block-owned fields. R275 gives the host-owned fields none, and R61
leaves `RF.COIN` and `RF.STAT[7:3]` open: those are the values notes/assumptions/4.md and 5.md choose. -/
def RegFile.reset : RegFile where
  ctrl := 0#8
  statHi := 0#5
  coin := false
  mode := .objScan
  scy := 0#8
  scx := 0#8
  ly := 0#8
  lyc := 0#8
  dot := 1#9
  bgp := 0#8
  obp0 := 0#8
  obp1 := 0#8
  wy := 0#8
  wx := 0#8

/-- An entry of zeros: what the slots of the two empty sprite sets hold after reset, where nothing reads them (R50). -/
def emptySlot : ObjEntry := { y := 0#8, x := 0#8, tile := 0#8, attr := 0#8 }

/-- The block-internal state after reset (R61). The shade table and the monochrome preference hold their power-on
parameters (R56, R57). -/
def Block.reset : Block where
  px := 0#8
  wlc := 0#8
  wyLatch := false
  frameReady := false
  vblankEntered := false
  cursor := 0#15
  sel := Vector.replicate 10 emptySlot
  nsel := 0#4
  pipeSpr := Vector.replicate 10 emptySlot
  npipe := 0#4
  winVis := false
  stallBudget := 0#8
  shadeRgb := #v[Config.shadeRgbDefault 0, Config.shadeRgbDefault 1, Config.shadeRgbDefault 2, Config.shadeRgbDefault 3]
  monoPref := Config.monoPrefDefault

/-- The machine right after the first RESET that follows power-on (R61, R271), nothing pending. -/
def State.reset : State where
  rf := RegFile.reset
  blk := Block.reset
  env := { colorMode := false, cpal := [] }
  mem := { oam := [], vram0 := [], vram1 := [], fb := [] }
  rdata := false
  pixWire := none
  winWire := false
  pending := []
  strobe := none
  awaitReset := false
  draws := 0
  epoch := 0

end Sys2Proof.Machine
end

