-- ==== Sys2Proof/Machine/Ops.lean ====
section
/-! DEFINITION. The named operations over memory, registers and the command port (spec/20_memory.md, R107 of
spec/30_encoding.md, R276, R271 of spec/70_reset_and_hazards.md). The block raises no exception, takes no interrupt and
has no return from either (R250, R251, R253 of spec/60_exceptions.md), so no operation here takes one: RESET is its one
recovery (R251). -/

namespace Sys2Proof.Machine

open Host (Outcome)

/-! ### Outcomes -/

/-- Go on with `f` from what `o` answers, and stop where `o` stops. -/
def andThen {α β : Type} (o : Outcome α Fault Refusal) (f : α → Outcome β Fault Refusal) :
    Outcome β Fault Refusal :=
  match o with
  | .next a => f a
  | .fault r => .fault r
  | .refused r => .refused r

/-! ### One memory -/

/-- The byte written last at `a`, none where nothing has been written since power-on. -/
def Memory.byteAt (m : Memory) (a : Nat) : Option Byte :=
  match m with
  | [] => none
  | (k, v) :: rest => if k = a then some v else Memory.byteAt rest a

/-- Write the byte `v` at `a`, keeping the addresses strictly rising. -/
def Memory.put (m : Memory) (a : Nat) (v : Byte) : Memory :=
  match m with
  | [] => [(a, v)]
  | (k, w) :: rest =>
    if a < k then (a, v) :: (k, w) :: rest
    else if a = k then (a, v) :: rest
    else (k, w) :: Memory.put rest a v

/-- Every address of the list is above `lo`, and they rise strictly. -/
def Memory.risesFrom (lo : Nat) (m : Memory) : Bool :=
  match m with
  | [] => true
  | (k, _) :: rest => decide (lo < k) && Memory.risesFrom k rest

/-- The canonical form: strictly rising addresses. An unlisted address holds no written byte, so no entry can equal what
an unlisted address holds, and equal memories are equal lists. -/
def Memory.wf (m : Memory) : Bool :=
  match m with
  | [] => true
  | (k, _) :: rest => Memory.risesFrom k rest

/-- Every listed address lies inside a space of `size` bytes. -/
def Memory.inside (size : Nat) (m : Memory) : Bool := m.all (fun c => decide (c.1 < size))

/-- The four memories are in canonical form and inside their spaces (R70). -/
def Mems.wf (m : Mems) : Bool :=
  Memory.wf m.oam && Memory.inside 160 m.oam &&
  Memory.wf m.vram0 && Memory.inside 8192 m.vram0 &&
  Memory.wf m.vram1 && Memory.inside 8192 m.vram1 &&
  Memory.wf m.fb && Memory.inside 69120 m.fb

/-- A memory that holds `v` at each of the addresses 0 to `n - 1`: what a host leaves that has filled a space. -/
def Memory.filled (n : Nat) (v : Byte) : Memory := (List.range n).map (fun a => (a, v))

/-! ### The four spaces: `MemRead` and `MemWrite` of R11 -/

/-- What an address that nothing has written reads as: a free byte, one for each power-on, space and address (U7, U8 of
spec/93_implementation_defined.md). -/
def State.unwritten (s : State) (sp : Space) (a : Nat) : Byte := Config.powerOnByte s.epoch sp a

/-- `MemRead(OAM, a, 1)`. -/
def State.oamByte (s : State) (a : Nat) : Byte := (Memory.byteAt s.mem.oam a).getD (s.unwritten .oam a)

/-- `MemRead(VRAM0, a, 1)`. -/
def State.vram0Byte (s : State) (a : Nat) : Byte := (Memory.byteAt s.mem.vram0 a).getD (s.unwritten .vram0 a)

/-- `MemRead(VRAM1, a, 1)`, which only the colour path's parameter makes (R73). -/
def State.vram1Byte (s : State) (a : Nat) : Byte := (Memory.byteAt s.mem.vram1 a).getD (s.unwritten .vram1 a)

/-- `MemRead(FB, a, 1)`, which only the host makes (R276). -/
def State.fbByte (s : State) (a : Nat) : Byte := (Memory.byteAt s.mem.fb a).getD (s.unwritten .fb a)

/-- The byte address of the triplet the cursor points at: `3 * S.CURSOR` (R232). -/
def State.tripletAddr (s : State) : Nat := 3 * s.blk.cursor.toNat

/-- The three single-byte writes of R232: red, green, blue at `3 * S.CURSOR` and the two addresses after it. -/
def State.putTriplet (s : State) (c : Rgb) : State :=
  { s with
    mem.fb := Memory.put (Memory.put (Memory.put s.mem.fb s.tripletAddr c.r) (s.tripletAddr + 1) c.g) (s.tripletAddr + 2) c.b }

/-- Object entry `i` of `OAM`: bytes `4i` to `4i + 3` in the order of R71. -/
def State.oamEntry (s : State) (i : Nat) : ObjEntry where
  y := s.oamByte (4 * i)
  x := s.oamByte (4 * i + 1)
  tile := s.oamByte (4 * i + 2)
  attr := s.oamByte (4 * i + 3)

/-! ### The command port -/

/-- Drive the result of a command (R107). -/
def State.answer (s : State) (v : Bool) : State := { s with rdata := v }

/-- A word the command port does not accept is ignored: no element of state changes and `rdata` is 0 (R106). -/
def ignoreWord (s : State) : Outcome State Fault Refusal := .next (s.answer false)

/-- The gate of U6: CLOCK, RD_FRAMEREADY and RD_VBLANK run only once a RESET has followed the last power-on (R274). -/
def afterReset (s : State) (o : Outcome State Fault Refusal) : Outcome State Fault Refusal :=
  if s.awaitReset then .fault .beforeReset else o

/-! ### The outside world -/

/-- A power-off/power-on cycle (R261, R271): the shade table and the monochrome preference take their power-on
parameters, every other element is unspecified, no memory holds a written byte, and the machine awaits RESET. The
host-owned registers get no initial value, and no boot program is presented: what the start-up code of the console writes
is outside the block (R275), so it comes as host moves. -/
def powerCycle (s : State) : State :=
  { s with
    rf := Config.powerOnRegs (s.epoch + 1)
    blk := { Config.powerOnBlock (s.epoch + 1) with
      shadeRgb := Block.reset.shadeRgb
      monoPref := Block.reset.monoPref }
    env := Config.powerOnEnv (s.epoch + 1)
    mem := { oam := [], vram0 := [], vram1 := [], fb := [] }
    awaitReset := true
    epoch := s.epoch + 1 }

/-- One host move between two commands (R276). -/
def hostMove (m : HostMove) (s : State) : State :=
  match m with
  | .ctrl v => { s with rf.ctrl := v }
  | .statHi v => { s with rf.statHi := v }
  | .scy v => { s with rf.scy := v }
  | .scx v => { s with rf.scx := v }
  | .lyc v => { s with rf.lyc := v }
  | .bgp v => { s with rf.bgp := v }
  | .obp0 v => { s with rf.obp0 := v }
  | .obp1 v => { s with rf.obp1 := v }
  | .wy v => { s with rf.wy := v }
  | .wx v => { s with rf.wx := v }
  | .colorMode v => { s with env.colorMode := v }
  | .cpal v => { s with env.cpal := v }
  | .oam a v => { s with mem.oam := Memory.put s.mem.oam a.val v }
  | .vram0 a v => { s with mem.vram0 := Memory.put s.mem.vram0 a.val v }
  | .vram1 a v => { s with mem.vram1 := Memory.put s.mem.vram1 a.val v }
  | .powerCycle => powerCycle s

end Sys2Proof.Machine
end

