-- ==== Sys2Proof/Machine/Operands.lean ====
section
/-! DEFINITION. What the operations make of their operands: the masked palette index of format P, the pixel of format X
(R103 of spec/30_encoding.md), the fields of `RF.CTRL` (R31) and of an entry's attribute byte (R52 of
spec/10_state.md), and a palette register's shade numbers (R38). The flag operands of format F are used as they are. -/

namespace Sys2Proof

/-! ### An entry's attribute byte (R52). Bits 3:0 are used by nothing here. -/

/-- Bit 7, `PRIO`. -/
def ObjEntry.prio (e : ObjEntry) : Bool := e.attr.getLsbD 7

/-- Bit 6, `YFLIP`. -/
def ObjEntry.yFlip (e : ObjEntry) : Bool := e.attr.getLsbD 6

/-- Bit 5, `XFLIP`. -/
def ObjEntry.xFlip (e : ObjEntry) : Bool := e.attr.getLsbD 5

/-- Bit 4, `PAL`. -/
def ObjEntry.pal (e : ObjEntry) : Bool := e.attr.getLsbD 4

end Sys2Proof

namespace Sys2Proof.Machine

/-- `idx4 & 3`: the entry of the shade table that SET_PALETTE writes (R103, R238). -/
def paletteSlot (idx4 : BitVec 4) : BitVec 2 := idx4.extractLsb' 0 2

/-- The pixel of format X (R103). -/
def pixelOperand (idx : BitVec 2) (src : Src) (pal prio : Bool) : Pixel :=
  { src := src, idx := idx, pal := pal, prio := prio }

/-! ### `RF.CTRL` (R31). Bit 7, `DISP_EN`, has no effect in this block. -/

/-- Bit 6, `WIN_MAP`. -/
def RegFile.winMap (rf : RegFile) : Bool := rf.ctrl.getLsbD 6

/-- Bit 5, `WIN_EN`. -/
def RegFile.winEn (rf : RegFile) : Bool := rf.ctrl.getLsbD 5

/-- Bit 4, `TILE_SEL`. -/
def RegFile.tileSel (rf : RegFile) : Bool := rf.ctrl.getLsbD 4

/-- Bit 3, `BG_MAP`. -/
def RegFile.bgMap (rf : RegFile) : Bool := rf.ctrl.getLsbD 3

/-- Bit 2, `OBJ_H`. -/
def RegFile.objH (rf : RegFile) : Bool := rf.ctrl.getLsbD 2

/-- Bit 1, `OBJ_EN`. -/
def RegFile.objEn (rf : RegFile) : Bool := rf.ctrl.getLsbD 1

/-- Bit 0, `BGWIN_EN`. -/
def RegFile.bgWinEn (rf : RegFile) : Bool := rf.ctrl.getLsbD 0

/-- The sprite height `h`: 16 when `RF.CTRL[2]` is 1, else 8 (R172, R207). -/
def RegFile.spriteHeight (rf : RegFile) : Nat := if rf.objH then 16 else 8

/-! ### Palette registers -/

/-- The shade a palette register gives colour index `i`: its bits `2i+1:2i` (R38, R231). -/
def shadeOf (pal : Byte) (i : BitVec 2) : BitVec 2 := pal.extractLsb' (2 * i.toNat) 2

end Sys2Proof.Machine
end

