-- ==== Sys2Proof/Machine/Flags.lean ====
section
/-! DEFINITION. The block's status elements (R26 of spec/10_state.md) and how each is computed: the mode as a function
of the position (R140), the coincidence bit (R138), the two edge latches (R135, R152, R153 of spec/40_scheduler.md), the
window-Y latch (R134) and the window conditions (R199 of spec/42_pixel_pipeline.md). -/

namespace Sys2Proof.Machine

/-- `ModeOf(l, d, px)` of R140: what `RF.MODE` equals after every CLOCK and after RESET. -/
def modeOf (l d px : Nat) : Mode :=
  if 144 ≤ l then .vblank
  else if d ≤ 80 then .objScan
  else if px < 160 then .xfer
  else .hblank

/-- `RF.MODE <- m`. -/
def State.setMode (s : State) (m : Mode) : State := { s with rf.mode := m }

/-- `RF.COIN <- 1 if RF.LY == RF.LYC else 0` (R138). -/
def State.recomputeCoin (s : State) : State := { s with rf.coin := decide (s.rf.ly = s.rf.lyc) }

/-- `S.WY_LATCH <- 1` where the line's index equals `RF.WY` (R134). -/
def State.latchWindowY (s : State) (l : Nat) : State :=
  if l = s.rf.wy.toNat then { s with blk.wyLatch := true } else s

/-- Entering line 144: the cursor returns to 0 and both edge latches are set (R135). -/
def State.enterVBlank (s : State) : State :=
  { s with blk.cursor := 0#15, blk.frameReady := true, blk.vblankEntered := true }

/-- Read and clear `S.FRAME_READY` (R152). -/
def State.takeFrameReady (s : State) : State :=
  { s with rdata := s.blk.frameReady, blk.frameReady := false }

/-- Read and clear `S.VBLANK_ENTERED` (R153). -/
def State.takeVBlankEntered (s : State) : State :=
  { s with rdata := s.blk.vblankEntered, blk.vblankEntered := false }

/-- `WinX(x)`: `x + 7 >= RF.WX`, over unbounded integers (R199). -/
def State.winX (s : State) (x : Nat) : Bool := decide (s.rf.wx.toNat ≤ x + 7)

/-- `WinActive(x)` (R199): window enabled, window-Y condition latched, window-X condition at this column. -/
def State.winActive (s : State) (x : Nat) : Bool := s.rf.winEn && s.blk.wyLatch && s.winX x

end Sys2Proof.Machine
end

