-- ==== Sys2Proof/Machine/Pipeline.lean ====
section
/-! DEFINITION. The Pixel Pipeline: PIPE_CLOCK, WINDOW_VISIBLE, fetch and compositing (spec/42_pixel_pipeline.md). Every
fetch is from `VRAM0` (R206). -/

namespace Sys2Proof.Machine

open Host (Outcome)

/-! ### Tiles -/

/-- `TilePix(a, c)` of R201: the colour index at column `c` of the tile row at byte address `a`, the low bit-plane at the
lower address, bit 7 leftmost. -/
def State.tilePix (s : State) (a c : Nat) : BitVec 2 :=
  BitVec.ofNat 2 (2 * ((s.vram0Byte (a + 1)).getLsbD (7 - c)).toNat + ((s.vram0Byte a).getLsbD (7 - c)).toNat)

/-- The base of a tile map: `0x1C00` when its select bit is 1, else `0x1800` (R202, R205). -/
def mapBase (sel : Bool) : Nat := if sel then 0x1C00 else 0x1800

/-- The address of a map cell: row `by div 8` and column `bx div 8` of a 32-by-32 map (R204). -/
def mapAddr (sel : Bool) (bx by' : Nat) : Nat := mapBase sel + 32 * (by' / 8) + bx / 8

/-- `TileAddr(t)` of R203: unsigned from `0x0000` when `RF.CTRL[4]` is 1, signed from `0x1000` else. -/
def tileAddr (tileSel : Bool) (t : Byte) : Nat :=
  if tileSel then 16 * t.toNat else (0x1000 + 16 * t.toInt).toNat

/-- The colour index of a plane's pixel at `(bx, by)`: the map cell gives the tile, the tile its row (R202, R205). -/
def State.planePix (s : State) (sel : Bool) (bx by' : Nat) : BitVec 2 :=
  s.tilePix (tileAddr s.rf.tileSel (s.vram0Byte (mapAddr sel bx by')) + 2 * (by' % 8)) (bx % 8)

/-! ### The layer under the sprites -/

/-- `BgIdx(x)` of R202: the background plane wraps at 256 in both directions. -/
def State.bgIdx (s : State) (x : Nat) : BitVec 2 :=
  s.planePix s.rf.bgMap ((x + s.rf.scx.toNat) % 256) ((s.rf.ly.toNat + s.rf.scy.toNat) % 256)

/-- `WinIdx(x)` of R205, used only where `WinActive(x)`: the column counts from `RF.WX - 7`, the row is `S.WLC`. -/
def State.winIdx (s : State) (x : Nat) : BitVec 2 :=
  s.planePix s.rf.winMap (x + 7 - s.rf.wx.toNat) s.blk.wlc.toNat

/-- The layer `u` under the sprites (R196, R198, R200): blank, window or background. -/
def State.underPixel (s : State) (x : Nat) : Pixel :=
  if !s.rf.bgWinEn then { src := .blank, idx := 0#2, pal := false, prio := false }
  else if s.winActive x then { src := .win, idx := s.winIdx x, pal := false, prio := false }
  else { src := .bg, idx := s.bgIdx x, pal := false, prio := false }

/-! ### Sprites -/

/-- The sprite covers column `x`: `sx <= x < sx + 8` with `sx = s.X - 8` an integer (R207). -/
def spriteCovers (e : ObjEntry) (x : Nat) : Bool :=
  decide ((e.x.toNat : Int) - 8 ≤ x) && decide ((x : Int) < (e.x.toNat : Int) - 8 + 8)

/-- The row of the sprite the line shows, an integer before any flip: `RF.LY + 16 - s.Y` (R207). -/
def shownRow (rf : RegFile) (e : ObjEntry) : Int := (rf.ly.toNat : Int) + 16 - e.y.toNat

/-- The row after the vertical flip (R207). -/
def flippedRow (rf : RegFile) (e : ObjEntry) : Nat :=
  if e.yFlip then rf.spriteHeight - 1 - (shownRow rf e).toNat else (shownRow rf e).toNat

/-- The byte address of the tile row a sprite shows (R207): in 16-unit mode the tile pair `TILE & 0xFE` and the next one,
else the tile itself, always unsigned from `0x0000`. -/
def spriteRowAddr (rf : RegFile) (e : ObjEntry) : Nat :=
  if rf.objH then 16 * ((e.tile &&& 0xFE#8).toNat + flippedRow rf e / 8) + 2 * (flippedRow rf e % 8)
  else 16 * e.tile.toNat + 2 * flippedRow rf e

/-- The tile column a sprite shows at screen column `x`, after the horizontal flip (R207). -/
def spriteCol (e : ObjEntry) (x : Nat) : Nat :=
  if e.xFlip then 7 - (x + 8 - e.x.toNat) else x + 8 - e.x.toNat

/-- `SprPix(s, x)` of R207 for the candidate in slot `j`. Index 0 is transparent. A shown row outside the sprite's height
(U3) offers a free value. -/
def State.sprPix (s : State) (j : Nat) (e : ObjEntry) (x : Nat) : Option Candidate :=
  if !spriteCovers e x then none
  else if shownRow s.rf e < 0 ∨ (s.rf.spriteHeight : Int) ≤ shownRow s.rf e then
    Config.staleCandidate s.draws j s.rf s.blk s.env s.mem
  else if s.tilePix (spriteRowAddr s.rf e) (spriteCol e x) = 0#2 then none
  else some { idx := s.tilePix (spriteRowAddr s.rf e) (spriteCol e x), pal := e.pal, prio := e.prio }

/-- What slot `j` of the Pipeline's candidates offers at column `x`. -/
def State.slotPix (s : State) (x : Nat) (j : Nat) : Option Candidate :=
  match s.blk.pipeSpr[j]? with
  | some e => s.sprPix j e x
  | none => none

/-- `SprCand(x)` of R208: the first slot in set order that offers a pixel. -/
def State.sprCand (s : State) (x : Nat) : Option Candidate :=
  (List.range s.blk.npipe.toNat).findSome? (s.slotPix x)

/-! ### Compositing -/

/-- The compositing rule of R210 between the layer `u` under the sprites and the sprite candidate `c`. -/
def composite (objEn : Bool) (u : Pixel) (c : Option Candidate) : Pixel :=
  match c with
  | none => u
  | some c =>
    if objEn && (!c.prio || u.idx == 0#2) then { src := .spr, idx := c.idx, pal := c.pal, prio := c.prio } else u

/-- `Compose(x)` of R196. -/
def State.compose (s : State) (x : Nat) : Pixel := composite s.rf.objEn (s.underPixel x) (s.sprCand x)

/-! ### The strobes -/

/-- `draw(stall)` of this strobe: the free choice `FetchTiming` makes (R13, R192). -/
def State.drawStall (s : State) : Bool := Config.fetchTiming s.draws s.rf s.blk s.env s.mem

/-- A strobe that yields no pixel: it takes one from the line's budget and changes nothing else (R192). -/
def State.stall (s : State) : State :=
  { s with blk.stallBudget := s.blk.stallBudget - 1#8, draws := s.draws + 1 }

/-- A strobe that yields a pixel: it records whether the window was active for it (R192). -/
def State.yielded (s : State) : State :=
  { s with blk.winVis := s.winActive s.blk.px.toNat, draws := s.draws + 1 }

/-- The pixel of a strobe that yields at column `x`: `Compose(x)` on columns 0 to 159 (R192, R196), and a free value past
them, which no run from reset meets. -/
def State.pixelAt (s : State) (x : Nat) : Pixel :=
  if x < 160 then s.compose x else Config.pixelPastLine s.draws s.rf s.blk s.env s.mem

/-- PIPE_CLOCK of R192: a pixel or none, and the state after the strobe. It is total (R250). -/
def opPipeClock (s : State) : Option Pixel × State :=
  if decide (0 < s.blk.stallBudget.toNat) && s.drawStall then (none, s.stall)
  else (some (s.pixelAt s.blk.px.toNat), s.yielded)

/-- WINDOW_VISIBLE of R195: its result. It changes nothing. -/
def opWindowVisible (s : State) : Bool := s.blk.winVis

/-- PIPE_CLOCK, the strobe run on its own: its result is on the internal wire (R107, R192). -/
def execPipeClock (s : State) : Outcome State Fault Refusal :=
  .next { (opPipeClock s).2 with pixWire := (opPipeClock s).1 }

/-- WINDOW_VISIBLE, the strobe run on its own: its result is on the internal wire (R107, R195). -/
def execWindowVisible (s : State) : Outcome State Fault Refusal :=
  .next { s with winWire := opWindowVisible s }

end Sys2Proof.Machine
end

