-- ==== Sys2Proof/Machine/Renderer.lean ====
section
/-! DEFINITION. The Pixel Renderer and the two configuration operations: RENDER_PIXEL, SET_PALETTE, SET_MONO_PREF
(spec/43_pixel_renderer.md). -/

namespace Sys2Proof.Machine

open Host (Outcome)

/-- Entry `k` of the shade table (R56). -/
def Block.shade (b : Block) (k : BitVec 2) : Rgb := b.shadeRgb[k.toNat]'k.isLt

/-- The palette register a pixel's source selects (R231): an object palette for a sprite pixel, else `RF.BGP`. -/
def paletteFor (rf : RegFile) (p : Pixel) : Byte :=
  match p.src with
  | .spr => if p.pal then rf.obp1 else rf.obp0
  | .blank => rf.bgp
  | .bg => rf.bgp
  | .win => rf.bgp

/-- `MonoRGB(p)` of R231. The two masks of R235 are the widths of the index and of the shade. -/
def State.monoRgb (s : State) (p : Pixel) : Rgb := s.blk.shade (shadeOf (paletteFor s.rf p) p.idx)

/-- `ColorPath(p, ...)` of R233, on exactly what it may read. -/
def State.colorRgb (s : State) (p : Pixel) : Rgb :=
  Config.colorPath p
    { px := s.blk.px, rf := s.rf, cpal := s.env.cpal, vram0 := fun a => s.vram0Byte a.val, vram1 := fun a => s.vram1Byte a.val,
      pipeSpr := s.blk.pipeSpr, npipe := s.blk.npipe }

/-- The colour path is taken iff `ENV.COLOR_MODE == 1` and `S.MONO_PREF == 0` (R234). -/
def State.onColorPath (s : State) : Bool := s.env.colorMode && !s.blk.monoPref

/-- The RGB value of a pixel on the path that R234 selects. -/
def State.pixelRgb (s : State) (p : Pixel) : Rgb := if s.onColorPath then s.colorRgb p else s.monoRgb p

/-- `S.CURSOR <- S.CURSOR + 1`. -/
def State.advanceCursor (s : State) : State := { s with blk.cursor := s.blk.cursor + 1#15 }

/-- The three writes of R232 as the frame buffer takes them: it holds 69120 bytes (R70), and a triplet past its end has no
byte to change. -/
def State.storeTriplet (s : State) (c : Rgb) : State := if s.tripletAddr < 69120 then s.putTriplet c else s

/-- RENDER_PIXEL of R230: the triplet goes to the frame buffer at the cursor, which then advances (R232). With the cursor at
23040 it faults (R236, U17). -/
def opRenderPixel (p : Pixel) (s : State) : Outcome State Fault Refusal :=
  if s.blk.cursor.toNat = 23040 then .fault .cursorOverrun
  else .next (s.storeTriplet (s.pixelRgb p)).advanceCursor

/-- RENDER_PIXEL, the strobe run on its own (R230). -/
def execRenderPixel (idx : BitVec 2) (src : Src) (pal prio : Bool) (s : State) : Outcome State Fault Refusal :=
  opRenderPixel (pixelOperand idx src pal prio) s

/-- `S.SHADE_RGB[k] <- c` (R238). -/
def State.setShade (s : State) (k : BitVec 2) (c : Rgb) : State :=
  { s with blk.shadeRgb := s.blk.shadeRgb.set k.toNat c k.isLt }

/-- SET_PALETTE of R238: the index is masked to its two low bits. -/
def execSetPalette (idx4 : BitVec 4) (r g b : Byte) (s : State) : Outcome State Fault Refusal :=
  .next ((s.setShade (paletteSlot idx4) { r := r, g := g, b := b }).answer false)

/-- SET_MONO_PREF of R239. -/
def execSetMonoPref (pref : Bool) (s : State) : Outcome State Fault Refusal :=
  .next ({ s with blk.monoPref := pref }.answer false)

end Sys2Proof.Machine
end

