-- ==== Sys2Proof/Machine/Scanner.lean ====
section
/-! DEFINITION. The Sprite Scanner: SCAN and LOAD_SPRITES (spec/41_sprite_scanner.md). -/

namespace Sys2Proof.Machine

open Host (Outcome)

/-- Entry `e` qualifies on the scan of line `ly`: `e.Y <= t` and `t < e.Y + h` with `t = RF.LY + 16`, over unbounded
integers (R172, R174). -/
def qualifies (rf : RegFile) (e : ObjEntry) : Bool :=
  decide (e.y.toNat ≤ rf.ly.toNat + 16) && decide (rf.ly.toNat + 16 < e.y.toNat + rf.spriteHeight)

/-- `S.SEL[S.NSEL] <- e` and `S.NSEL <- S.NSEL + 1` (R170). -/
def Block.select (b : Block) (e : ObjEntry) : Block :=
  { b with sel := b.sel.setIfInBounds b.nsel.toNat e, nsel := b.nsel + 1#4 }

/-- The loop of R170 over the entries still to examine, in table order: it leaves at the tenth selection (R173). -/
def scanLoop (s : State) (b : Block) (todo : List Nat) : Block :=
  match todo with
  | [] => b
  | i :: rest =>
    if b.nsel.toNat = 10 then b
    else scanLoop s (if qualifies s.rf (s.oamEntry i) then b.select (s.oamEntry i) else b) rest

/-- LOAD_SPRITES of R176: the Pipeline's candidates are replaced by the selected set, and the line's stall budget is
filled. The slots at or above `S.NSEL` are not written. -/
def opLoadSprites (s : State) : State :=
  { s with
    blk.npipe := s.blk.nsel
    blk.pipeSpr := Vector.ofFn (fun j : Fin 10 => if j.val < s.blk.nsel.toNat then s.blk.sel[j] else s.blk.pipeSpr[j])
    blk.stallBudget := BitVec.ofNat 8 216 }

/-- `S.NSEL <- 0` (R170). -/
def Block.clearSet (b : Block) : Block := { b with nsel := 0#4 }

/-- The selected set of R170: empty when a DMA transfer owns the bus, with no `OAM` read (R171), else the first ten
qualifying entries in table order (R173). -/
def State.selection (s : State) (dma : Bool) : Block :=
  if dma then s.blk.clearSet else scanLoop s s.blk.clearSet (List.range 40)

/-- SCAN of R170: select the line's set and hand it to the Pipeline. -/
def opScan (dma : Bool) (s : State) : State := opLoadSprites { s with blk := s.selection dma }

/-- SCAN, the strobe run on its own (R170). -/
def execScan (dma : Bool) (s : State) : Outcome State Fault Refusal := .next (opScan dma s)

/-- LOAD_SPRITES, the strobe run on its own (R176). -/
def execLoadSprites (s : State) : Outcome State Fault Refusal := .next (opLoadSprites s)

end Sys2Proof.Machine
end

