-- ==== Sys2Proof/Machine/Scheduler.lean ====
section
/-! DEFINITION. The Mode/Timing Scheduler: CLOCK, RESET, RD_FRAMEREADY, RD_VBLANK (spec/40_scheduler.md). CLOCK is R131,
cut where its line numbers cut it. -/

namespace Sys2Proof.Machine

open Host (Outcome)

/-- Lines 3 and 4 of R131: the dot counter wraps to 1, and the window line counter advances if the window was visible
(R133). -/
def State.wrapDot (s : State) : State :=
  if opWindowVisible s then { s with rf.dot := 1#9, blk.wlc := s.blk.wlc + 1#8 } else { s with rf.dot := 1#9 }

/-- Lines 5 to 10: the scanline index advances. Past the last line it returns to 0, with the window line counter and the
window-Y latch cleared (R133). -/
def State.nextLine (s : State) : State :=
  if s.rf.ly.toNat + 1 = 154 then { s with rf.ly := 0#8, blk.wlc := 0#8, blk.wyLatch := false }
  else { s with rf.ly := BitVec.ofNat 8 (s.rf.ly.toNat + 1) }

/-- Lines 11 to 19: what the start of line `l` does, on a visible line (R134) and in the invisible range (R135). -/
def State.startLine (s : State) (l : Nat) : State :=
  if l < 144 then (s.setMode .objScan).latchWindowY l
  else if l = 144 then (s.setMode .vblank).enterVBlank
  else s.setMode .vblank

/-- The local `l` after lines 5 to 7: the index of the line that starts. -/
def nextLineIndex (ly : Byte) : Nat := if ly.toNat + 1 = 154 then 0 else ly.toNat + 1

/-- Lines 1 to 21: the dot counter, and at its wrap the line (R132 to R135). -/
def State.advanceDot (s : State) : State :=
  if s.rf.dot.toNat + 1 = 457 then s.wrapDot.nextLine.startLine (nextLineIndex s.rf.ly)
  else { s with rf.dot := BitVec.ofNat 9 (s.rf.dot.toNat + 1) }

/-- Lines 23 to 25: at dot 80 the Scanner runs and the pixel-column counter returns to 0 (R136). -/
def State.atScanDot (s : State) (dma : Bool) : State :=
  if s.rf.dot.toNat = 80 then { opScan dma s with blk.px := 0#8 } else s

/-- Lines 26 and 27: at dot 81 the line enters PixelTransfer (R137). -/
def State.atXferDot (s : State) : State := if s.rf.dot.toNat = 81 then s.setMode .xfer else s

/-- Lines 22 to 27: dots 80 and 81 of a visible line. -/
def State.visibleDot (s : State) (dma : Bool) : State :=
  if s.rf.ly.toNat < 144 then (s.atScanDot dma).atXferDot else s

/-- Lines 34 and 35: the line enters HBlank when the pixel-column counter is 160 (R139). -/
def State.endOfTransfer (s : State) : State := if s.blk.px.toNat = 160 then s.setMode .hblank else s

/-- Line 33: `S.PX <- S.PX + 1`. -/
def State.countPixel (s : State) : State := { s with blk.px := s.blk.px + 1#8 }

/-- Lines 31 to 33: a pixel the Pipeline yields is rendered at once and counted. -/
def renderYield (r : Option Pixel × State) : Outcome State Fault Refusal :=
  match r.1 with
  | none => .next r.2
  | some p => andThen (opRenderPixel p r.2) (fun t => .next t.countPixel)

/-- Lines 29 to 35: in PixelTransfer the Pipeline is strobed once (R139). -/
def State.transferDot (s : State) : Outcome State Fault Refusal :=
  if s.rf.mode = .xfer then
    andThen (renderYield (opPipeClock s)) (fun t => .next t.endOfTransfer)
  else .next s

/-- Lines 1 to 28: the part of CLOCK before the Pipeline strobe. -/
def State.beforeTransfer (s : State) (dma : Bool) : State := (s.advanceDot.visibleDot dma).recomputeCoin

/-- CLOCK of R131, one dot. Its result is `rdata = 0`. -/
def execClock (dma : Bool) (s : State) : Outcome State Fault Refusal :=
  afterReset s (andThen (s.beforeTransfer dma).transferDot (fun t => .next (t.answer false)))

/-- RESET of R150: exactly the thirteen writes of the rule, and the machine no longer awaits a RESET. -/
def execReset (s : State) : Outcome State Fault Refusal :=
  .next ({ s with
    rf.ly := 0#8
    rf.dot := 1#9
    rf.mode := .objScan
    blk.px := 0#8
    blk.wlc := 0#8
    blk.wyLatch := false
    blk.frameReady := false
    blk.vblankEntered := false
    blk.cursor := 0#15
    blk.nsel := 0#4
    blk.npipe := 0#4
    blk.winVis := false
    blk.stallBudget := 0#8
    awaitReset := false }.answer false)

/-- RD_FRAMEREADY of R152. -/
def execRdFrameReady (s : State) : Outcome State Fault Refusal := afterReset s (.next s.takeFrameReady)

/-- RD_VBLANK of R153. -/
def execRdVBlank (s : State) : Outcome State Fault Refusal := afterReset s (.next s.takeVBlankEntered)

end Sys2Proof.Machine
end

