-- ==== Sys2Proof/Machine/Dispatch.lean ====
section
/-! DEFINITION. One arm per constructor of Instr, each one direct call of the instruction's meaning. -/

namespace Sys2Proof.Machine

open Host (Outcome)

def exec (i : Instr) (s : State) : Host.Outcome State Fault Refusal :=
  match i with
  | .clock dma => Sys2Proof.Machine.execClock dma s
  | .reset => Sys2Proof.Machine.execReset s
  | .rdFrameReady => Sys2Proof.Machine.execRdFrameReady s
  | .rdVBlank => Sys2Proof.Machine.execRdVBlank s
  | .setPalette idx4 r g b => Sys2Proof.Machine.execSetPalette idx4 r g b s
  | .setMonoPref pref => Sys2Proof.Machine.execSetMonoPref pref s
  | .scan dma => Sys2Proof.Machine.execScan dma s
  | .loadSprites => Sys2Proof.Machine.execLoadSprites s
  | .pipeClock => Sys2Proof.Machine.execPipeClock s
  | .windowVisible => Sys2Proof.Machine.execWindowVisible s
  | .renderPixel idx src pal prio => Sys2Proof.Machine.execRenderPixel idx src pal prio s

end Sys2Proof.Machine
end

