-- ==== Sys2Proof/Machine/Fetch.lean ====
section
/-! DEFINITION. What the machine takes next (R81, R100, R106): a word on the internal strobe wires, else the head of the
outside world's script. Step.lean runs what `fetch` takes. -/

namespace Sys2Proof.Machine

/-- What one step does. -/
inductive Fetched where
  /-- Run this operation. -/
  | run (i : Instr)
  /-- A command word the port does not accept: it is ignored (R106). -/
  | ignored
  /-- A host move between two commands (R276). -/
  | moved (m : HostMove)
  /-- Nothing is presented: all state is held (R261). -/
  | idle
  deriving DecidableEq, Repr

/-- A word on the command port: the six external operations are accepted, every other word is ignored (R106, R110). -/
def fromPort (w : Word) : Fetched :=
  match decode w with
  | .ok i => if i.external then .run i else .ignored
  | .error _ => .ignored

/-- A word on the internal strobe wires: whatever operation it names runs. -/
def fromStrobe (w : Word) : Fetched :=
  match decode w with
  | .ok i => .run i
  | .error _ => .ignored

/-- What the machine takes next, and the state with it taken. -/
def fetch (s : State) : Fetched × State :=
  match s.strobe with
  | some w => (fromStrobe w, { s with strobe := none })
  | none =>
    match s.pending with
    | [] => (.idle, s)
    | .cmd w :: rest => (fromPort w, { s with pending := rest })
    | .host m :: rest => (.moved m, { s with pending := rest })

/-- Present a word so that the very next step takes it: an internal strobe's word on the internal wires, every other word
on the command port. -/
def presentWord (s : State) (w : Word) : State :=
  match fromPort w, fromStrobe w with
  | .ignored, .run _ => { s with strobe := some w }
  | _, _ => { s with strobe := none, pending := .cmd w :: s.pending }

end Sys2Proof.Machine
end

