-- ==== Sys2Proof/Machine/Step.lean ====
section
/-! DEFINITION. One step of the machine: it takes what comes next and runs it to completion (R81, R100). -/

namespace Sys2Proof.Machine

/-- One step: a command, a host move, or nothing. -/
def step (s : State) : Host.Outcome State Fault Refusal :=
  match fetch s with
  | (.run i, t) => exec i t
  | (.ignored, t) => ignoreWord t
  | (.moved m, t) => .next (hostMove m t)
  | (.idle, t) => .next t

/-- `s` with the opcode-table word presented where `step` takes its next operation. -/
def State.withFetchWord (s : State) (nbits w : Nat) : State := presentWord s (tableWord nbits w)

end Sys2Proof.Machine
end

