-- ==== Sys2Proof/Machine/Script.lean ====
section
/-! DEFINITION. The script notation of the spec (R108, R109 of spec/30_encoding.md): how a command is written, and the
pseudo-instructions as the inputs they stand for. They add no operation to the block. -/

namespace Sys2Proof.Machine

/-- An operation as an input on the command port. -/
def Input.ofInstr (i : Instr) : Input := .cmd (encode i)

/-- `CLOCKN n, dma=b`: `n` copies of `CLOCK dma=b` (R109). -/
def clockN (n : Nat) (dma : Bool) : List Input := List.replicate n (Input.ofInstr (.clock dma))

/-- `LINE dma=b`: one scanline of clocks (R109). -/
def scriptLine (dma : Bool) : List Input := clockN 456 dma

/-- `FRAME dma=b`: one frame of clocks (R109). -/
def scriptFrame (dma : Bool) : List Input := clockN 70224 dma

/-- A Boolean operand in a script: 0 or 1. -/
def showBit (b : Bool) : String := if b then "1" else "0"

/-- One hexadecimal digit. -/
def showDigit (d : Nat) : String :=
  match d with
  | 0 => "0" | 1 => "1" | 2 => "2" | 3 => "3" | 4 => "4" | 5 => "5" | 6 => "6" | 7 => "7"
  | 8 => "8" | 9 => "9" | 10 => "A" | 11 => "B" | 12 => "C" | 13 => "D" | 14 => "E" | _ => "F"

/-- A byte as two hexadecimal digits. -/
def showByte (v : Byte) : String := showDigit (v.toNat / 16) ++ showDigit (v.toNat % 16)

/-- A number below 16 in decimal. -/
def showIndex (v : BitVec 4) : String :=
  if v.toNat < 10 then showDigit v.toNat else "1" ++ showDigit (v.toNat - 10)

/-- A source tag in a trace (R108). -/
def showSrc (src : Src) : String :=
  match src with
  | .blank => "BLANK"
  | .bg => "BG"
  | .win => "WIN"
  | .spr => "SPR"

/-- An operation as a line of a script or of a trace (R108). -/
def showInstr (i : Instr) : String :=
  match i with
  | .clock dma => "CLOCK dma=" ++ showBit dma
  | .reset => "RESET"
  | .rdFrameReady => "RD_FRAMEREADY"
  | .rdVBlank => "RD_VBLANK"
  | .setPalette idx4 r g b =>
    "SET_PALETTE idx=" ++ showIndex idx4 ++ ", rgb=" ++ showByte r ++ " " ++ showByte g ++ " " ++ showByte b
  | .setMonoPref pref => "SET_MONO_PREF pref=" ++ showBit pref
  | .scan dma => "SCAN dma=" ++ showBit dma
  | .loadSprites => "LOAD_SPRITES"
  | .pipeClock => "PIPE_CLOCK"
  | .windowVisible => "WINDOW_VISIBLE"
  | .renderPixel idx src pal prio =>
    "RENDER_PIXEL src=" ++ showSrc src ++ ", idx=" ++ showDigit idx.toNat ++
      (match src with
       | .spr => ", pal=" ++ showBit pal ++ ", prio=" ++ showBit prio
       | .blank => ""
       | .bg => ""
       | .win => "")

end Sys2Proof.Machine
end

