-- ==== Sys2Proof/Safety.lean ====
section
/-! DEFINITION. The terms claims are made in: the position (R25), the invariants of the machine between commands (R23,
R51, R140, R193, R211, R236), completion, and a run of CLOCK commands (R144). -/

namespace Sys2Proof.Machine

open Host (Outcome)

/-- The outcome is a next state. -/
def Completes (o : Outcome State Fault Refusal) : Prop := ∃ t, o = .next t

/-- The linear position `P = RF.LY * 456 + (RF.DOT - 1)` (R25). -/
def State.position (s : State) : Nat := s.rf.ly.toNat * 456 + (s.rf.dot.toNat - 1)

/-- The counters of the position are in their ranges (R23). -/
structure State.PositionLegal (s : State) : Prop where
  ly_le   : s.rf.ly.toNat ≤ 153
  dot_pos : 1 ≤ s.rf.dot.toNat
  dot_le  : s.rf.dot.toNat ≤ 456

/-- Where the write cursor stands at a position (R135, R236): at 0 in VBlank, at the start of the line before its scan,
at the column reached after it. -/
def cursorAt (l d px : Nat) : Nat := if 144 ≤ l then 0 else if d < 80 then 160 * l else 160 * l + px

/-- The block-owned state between commands, from the first RESET on. -/
structure State.Legal (s : State) : Prop where
  /-- R23. -/
  position   : s.PositionLegal
  /-- R21, R44. -/
  px_le      : s.blk.px.toNat ≤ 160
  /-- R23, R50. -/
  nsel_le    : s.blk.nsel.toNat ≤ 10
  /-- R51. -/
  npipe_eq   : s.blk.npipe = s.blk.nsel
  /-- R51. -/
  pipe_eq    : ∀ j : Fin 10, j.val < s.blk.nsel.toNat → s.blk.pipeSpr[j] = s.blk.sel[j]
  /-- R140. -/
  mode_eq    : s.rf.mode = modeOf s.rf.ly.toNat s.rf.dot.toNat s.blk.px.toNat
  /-- R45: the window line counter never passes the scanline index. -/
  wlc_le     : s.blk.wlc.toNat ≤ s.rf.ly.toNat
  /-- R54. -/
  budget_le  : s.blk.stallBudget.toNat ≤ 216
  /-- R193: from the scan on, each dot of a visible line has yielded a pixel, spent a stall, or found the line complete. -/
  strobes    : s.rf.ly.toNat < 144 → 80 ≤ s.rf.dot.toNat →
    s.rf.dot.toNat + s.blk.stallBudget.toNat = s.blk.px.toNat + 296 ∨
    (s.blk.px.toNat = 160 ∧ 456 ≤ s.rf.dot.toNat + s.blk.stallBudget.toNat)
  /-- R236. -/
  cursor_eq  : s.blk.cursor.toNat = cursorAt s.rf.ly.toNat s.rf.dot.toNat s.blk.px.toNat
  /-- R174, R212: from the scan on, the line shows a row 0 to 15 of every selected sprite. -/
  rows       : s.rf.ly.toNat < 144 → 80 ≤ s.rf.dot.toNat → ∀ j : Fin 10, j.val < s.blk.nsel.toNat →
    s.blk.sel[j].y.toNat ≤ s.rf.ly.toNat + 16 ∧ s.rf.ly.toNat + 16 < s.blk.sel[j].y.toNat + 16

/-- The invariant of the machine between commands: no strobe is on the internal wires, the memories are in canonical form
inside their spaces (R70), and the block is legal unless it awaits the RESET that a power-on calls for (R274). -/
structure State.Inv (s : State) : Prop where
  strobe_none : s.strobe = none
  pix_none    : s.pixWire = none
  win_false   : s.winWire = false
  mem_wf      : Mems.wf s.mem = true
  legal       : s.awaitReset = false → s.Legal

/-- Everything the host owns (R22, R256) is the same in both states. -/
structure SameHostOwned (s t : State) : Prop where
  ctrl   : t.rf.ctrl = s.rf.ctrl
  statHi : t.rf.statHi = s.rf.statHi
  scy    : t.rf.scy = s.rf.scy
  scx    : t.rf.scx = s.rf.scx
  lyc    : t.rf.lyc = s.rf.lyc
  bgp    : t.rf.bgp = s.rf.bgp
  obp0   : t.rf.obp0 = s.rf.obp0
  obp1   : t.rf.obp1 = s.rf.obp1
  wy     : t.rf.wy = s.rf.wy
  wx     : t.rf.wx = s.rf.wx
  env    : t.env = s.env
  oam    : t.mem.oam = s.mem.oam
  vram0  : t.mem.vram0 = s.mem.vram0
  vram1  : t.mem.vram1 = s.mem.vram1

/-- The same model's own state in both: what is pending, the strobe wire, the power-on count. -/
structure SameModelOwned (s t : State) : Prop where
  pending : t.pending = s.pending
  strobe  : t.strobe = s.strobe
  epoch   : t.epoch = s.epoch

/-- The shown row of every sprite candidate lies inside the sprite's height: no candidate meets U3 of
spec/93_implementation_defined.md. -/
def State.RowsInHeight (s : State) : Prop :=
  ∀ j : Fin 10, j.val < s.blk.npipe.toNat →
    s.blk.pipeSpr[j].y.toNat ≤ s.rf.ly.toNat + 16 ∧
    s.rf.ly.toNat + 16 < s.blk.pipeSpr[j].y.toNat + s.rf.spriteHeight

/-- The two states agree on everything R196 lets `Compose` read. -/
structure SameComposeInputs (s t : State) : Prop where
  ly      : t.rf.ly = s.rf.ly
  ctrl    : t.rf.ctrl = s.rf.ctrl
  scx     : t.rf.scx = s.rf.scx
  scy     : t.rf.scy = s.rf.scy
  wx      : t.rf.wx = s.rf.wx
  wlc     : t.blk.wlc = s.blk.wlc
  wyLatch : t.blk.wyLatch = s.blk.wyLatch
  pipeSpr : t.blk.pipeSpr = s.blk.pipeSpr
  npipe   : t.blk.npipe = s.blk.npipe
  vram0   : ∀ a, t.vram0Byte a = s.vram0Byte a

/-- The bits of a command word that its format names (R102): all of format P, the low ten of format X, the low five of
format F, the opcode alone in format N and where the opcode is reserved. -/
def namedBits (op : BitVec 4) : Word :=
  match op.toNat with
  | 0x1 => 0x0000001F#32
  | 0x5 => 0xFFFFFFFF#32
  | 0x6 => 0x0000001F#32
  | 0x8 => 0x0000001F#32
  | 0xC => 0x000003FF#32
  | _ => 0x0000000F#32

/-- CLOCK commands in a row, one for each `dma` operand of the list, stopping at the first that does not complete. -/
def clocks (dmas : List Bool) (s : State) : Outcome State Fault Refusal :=
  match dmas with
  | [] => .next s
  | dma :: rest => andThen (exec (.clock dma) s) (clocks rest)

end Sys2Proof.Machine
end

