-- ==== Sys2Proof/Certificates/Slice0/Obligations.lean ====
section
/-! DEFINITION. The statements for the provers: what the spec's rules say the block does, in the terms of Safety.lean. -/

open Sys2Proof
open Sys2Proof.Machine

/-- R105 of spec/30_encoding.md, which the spec derives from R102 and R104: the worked encodings. -/
def Obligations.WorkedCommandWordsDecode : Prop :=
  decode 0x00000001#32 = .ok (.clock false) ∧
  decode 0x00000011#32 = .ok (.clock true) ∧
  decode 0x00000002#32 = .ok .reset ∧
  decode 0x00000003#32 = .ok .rdFrameReady ∧
  decode 0x00000004#32 = .ok .rdVBlank ∧
  decode 0xFFAA5525#32 = .ok (.setPalette 2#4 0x55#8 0xAA#8 0xFF#8) ∧
  decode 0xFFAA5565#32 = .ok (.setPalette 6#4 0x55#8 0xAA#8 0xFF#8) ∧
  (∀ s : State, ∃ t, exec (.setPalette 6#4 0x55#8 0xAA#8 0xFF#8) s = .next t ∧
    t.blk.shadeRgb[2] = { r := 0x55#8, g := 0xAA#8, b := 0xFF#8 }) ∧
  decode 0x00000016#32 = .ok (.setMonoPref true) ∧
  decode 0xABCDEF01#32 = .ok (.clock false) ∧
  decode 0xABCDEF11#32 = .ok (.clock true)

/-- R102, R103, R104, R110 of spec/30_encoding.md: the opcode map and the field positions, for all words. -/
def Obligations.DecodeReadsTheNamedFields : Prop :=
  ∀ w : Word,
    (w.extractLsb' 0 4 = 0x1#4 → decode w = .ok (.clock (w.getLsbD 4))) ∧
    (w.extractLsb' 0 4 = 0x2#4 → decode w = .ok .reset) ∧
    (w.extractLsb' 0 4 = 0x3#4 → decode w = .ok .rdFrameReady) ∧
    (w.extractLsb' 0 4 = 0x4#4 → decode w = .ok .rdVBlank) ∧
    (w.extractLsb' 0 4 = 0x5#4 → decode w = .ok
      (.setPalette (w.extractLsb' 4 4) (w.extractLsb' 8 8) (w.extractLsb' 16 8) (w.extractLsb' 24 8))) ∧
    (w.extractLsb' 0 4 = 0x6#4 → decode w = .ok (.setMonoPref (w.getLsbD 4))) ∧
    (w.extractLsb' 0 4 = 0x8#4 → decode w = .ok (.scan (w.getLsbD 4))) ∧
    (w.extractLsb' 0 4 = 0x9#4 → decode w = .ok .loadSprites) ∧
    (w.extractLsb' 0 4 = 0xA#4 → decode w = .ok .pipeClock) ∧
    (w.extractLsb' 0 4 = 0xB#4 → decode w = .ok .windowVisible) ∧
    (w.extractLsb' 0 4 = 0xC#4 → ∃ src,
      decode w = .ok (.renderPixel (w.extractLsb' 4 2) src (w.getLsbD 8) (w.getLsbD 9)) ∧
      (w.extractLsb' 6 2 = 0#2 → src = .blank) ∧ (w.extractLsb' 6 2 = 1#2 → src = .bg) ∧
      (w.extractLsb' 6 2 = 2#2 → src = .win) ∧ (w.extractLsb' 6 2 = 3#2 → src = .spr)) ∧
    ((w.extractLsb' 0 4 = 0x0#4 ∨ w.extractLsb' 0 4 = 0x7#4 ∨ w.extractLsb' 0 4 = 0xD#4 ∨
      w.extractLsb' 0 4 = 0xE#4 ∨ w.extractLsb' 0 4 = 0xF#4) →
      decode w = .error (.reserved (w.extractLsb' 0 4)))

/-- R102 to R104 of spec/30_encoding.md: decode and encode agree on all eleven operations and every operand. -/
def Obligations.DecodeInvertsEncode : Prop :=
  ∀ i : Instr, decode (encode i) = .ok i

/-- R102 to R104 of spec/30_encoding.md: the other direction. A word has one meaning, and its ignored bits carry none. -/
def Obligations.EncodeInvertsDecodeOnNamedBits : Prop :=
  ∀ (w : Word) (i : Instr), decode w = .ok i → encode i = w &&& namedBits (w.extractLsb' 0 4)

/-- R102 of spec/30_encoding.md: any value of an ignored bit is accepted and has no effect. -/
def Obligations.IgnoredBitsHaveNoEffect : Prop :=
  ∀ w v : Word, w &&& namedBits (w.extractLsb' 0 4) = v &&& namedBits (w.extractLsb' 0 4) → decode v = decode w

/-- R106 of spec/30_encoding.md, a decision of the spec (D2, D32). -/
def Obligations.PortIgnoresReservedAndInternalWords : Prop :=
  ∀ (s : State) (w : Word) (rest : List Input),
    s.strobe = none → s.pending = .cmd w :: rest →
    ((w.extractLsb' 0 4).toNat = 0 ∨ 7 ≤ (w.extractLsb' 0 4).toNat) →
    step s = .next { s with pending := rest, rdata := false }

/-- R100, R104, R110 of spec/30_encoding.md. The strobe wires as a place to present a word are the model's own (notes/assumptions/2.md). -/
def Obligations.StepRunsTheDecodedOperation : Prop :=
  (∀ (s : State) (w : Word) (i : Instr) (rest : List Input),
    s.strobe = none → s.pending = .cmd w :: rest → decode w = .ok i → i.external = true →
    step s = exec i { s with pending := rest }) ∧
  (∀ (s : State) (w : Word) (i : Instr),
    s.strobe = some w → decode w = .ok i → step s = exec i { s with strobe := none })

/-- R100, R104 of spec/30_encoding.md, for the place where the host of this model presents a word (notes/assumptions/1.md, 2.md). -/
def Obligations.FetchWordRunsItsRow : Prop :=
  ∀ (s : State) (nbits w : Nat) (i : Instr), decodeTableWord nbits w = some i →
    step (s.withFetchWord nbits w) = exec i { s with strobe := none }

/-- R261 of spec/60_exceptions.md: the block advances only when a command arrives and holds all state between commands. -/
def Obligations.StepHoldsStateWhenNothingIsPresented : Prop :=
  ∀ s : State, s.strobe = none → s.pending = [] → step s = .next s

/-- R22 of spec/10_state.md, R277 of spec/70_reset_and_hazards.md: the host never writes a block-owned element. -/
def Obligations.HostMovesLeaveBlockOwnedStateAlone : Prop :=
  ∀ (s : State) (m : HostMove) (rest : List Input),
    s.strobe = none → s.pending = .host m :: rest → m ≠ .powerCycle →
    ∃ t, step s = .next t ∧ t.pending = rest ∧
      t.rf.ly = s.rf.ly ∧ t.rf.dot = s.rf.dot ∧ t.rf.mode = s.rf.mode ∧ t.rf.coin = s.rf.coin ∧
      t.blk = s.blk ∧ t.mem.fb = s.mem.fb ∧ t.rdata = s.rdata ∧ t.pixWire = s.pixWire ∧ t.winWire = s.winWire ∧
      t.strobe = none ∧ t.awaitReset = s.awaitReset ∧ t.draws = s.draws ∧ t.epoch = s.epoch

/-- R81, R84 of spec/20_memory.md: one total order, and a read returns the latest write before it. -/
def Obligations.HostMemoryWriteIsReadBack : Prop :=
  (∀ (s : State) (a : Fin 160) (v : Byte) (rest : List Input),
    s.strobe = none → s.pending = .host (.oam a v) :: rest →
    ∃ t, step s = .next t ∧ t = { s with pending := rest, mem.oam := t.mem.oam } ∧
      t.oamByte a.val = v ∧ ∀ b, b ≠ a.val → t.oamByte b = s.oamByte b) ∧
  (∀ (s : State) (a : Fin 8192) (v : Byte) (rest : List Input),
    s.strobe = none → s.pending = .host (.vram0 a v) :: rest →
    ∃ t, step s = .next t ∧ t = { s with pending := rest, mem.vram0 := t.mem.vram0 } ∧
      t.vram0Byte a.val = v ∧ ∀ b, b ≠ a.val → t.vram0Byte b = s.vram0Byte b) ∧
  (∀ (s : State) (a : Fin 8192) (v : Byte) (rest : List Input),
    s.strobe = none → s.pending = .host (.vram1 a v) :: rest →
    ∃ t, step s = .next t ∧ t = { s with pending := rest, mem.vram1 := t.mem.vram1 } ∧
      t.vram1Byte a.val = v ∧ ∀ b, b ≠ a.val → t.vram1Byte b = s.vram1Byte b)

/-- R271, R274 of spec/70_reset_and_hazards.md and U6 of spec/93_implementation_defined.md. The power cycle as an input, and that no operation but the three of U6 is stopped by the wait, are the model's own (notes/assumptions/15.md). -/
def Obligations.PowerOnThenOnlyResetRestartsTheClock : Prop :=
  (∀ (s : State) (rest : List Input), s.strobe = none → s.pending = .host .powerCycle :: rest →
    ∃ t, step s = .next t ∧ t.pending = rest ∧ t.awaitReset = true ∧
      (∀ k : Fin 4, t.blk.shadeRgb[k] = Config.shadeRgbDefault k) ∧ t.blk.monoPref = Config.monoPrefDefault ∧
      (∀ a, Memory.byteAt t.mem.oam a = none ∧ Memory.byteAt t.mem.vram0 a = none ∧
        Memory.byteAt t.mem.vram1 a = none ∧ Memory.byteAt t.mem.fb a = none)) ∧
  (∀ s : State, s.awaitReset = true →
    (∀ dma, exec (.clock dma) s = .fault .beforeReset) ∧
    exec .rdFrameReady s = .fault .beforeReset ∧
    exec .rdVBlank s = .fault .beforeReset) ∧
  (∀ s t : State, s.awaitReset = true → (fetch s).1 ≠ .run .reset → step s = .next t → t.awaitReset = true) ∧
  (∀ s : State, ∃ u, exec .reset s = .next u ∧ u.awaitReset = false ∧
    Completes (exec .rdFrameReady u) ∧ Completes (exec .rdVBlank u) ∧ ∀ dma, exec (.clock dma) u ≠ .fault .beforeReset)

/-- R150 of spec/40_scheduler.md, its values decisions of the spec (D5, D6). That RESET ends the wait after a power-on is R271, R274. -/
def Obligations.ResetCommandWritesItsThirteenElements : Prop :=
  (∀ w : Word, w.extractLsb' 0 4 = 0x2#4 → decode w = .ok .reset) ∧
  ∀ s : State, ∃ t, exec .reset s = .next t ∧
    t.rf = { s.rf with ly := 0#8, dot := 1#9, mode := .objScan } ∧
    t.blk = { s.blk with
      px := 0#8, wlc := 0#8, wyLatch := false, frameReady := false, vblankEntered := false, cursor := 0#15,
      nsel := 0#4, npipe := 0#4, winVis := false, stallBudget := 0#8 } ∧
    t.env = s.env ∧ t.mem = s.mem ∧ t.rdata = false ∧ t.awaitReset = false ∧
    t.pixWire = s.pixWire ∧ t.winWire = s.winWire ∧ SameModelOwned s t ∧ t.draws = s.draws

/-- R151 of spec/40_scheduler.md: RESET is idempotent. -/
def Obligations.ResetIsIdempotent : Prop :=
  ∀ s t : State, exec .reset s = .next t → exec .reset t = .next t

/-- R61 of spec/10_state.md, R271 of spec/70_reset_and_hazards.md: the values the spec gives. The values of the host-owned registers are the model's choice and are not stated here. -/
def Obligations.ResetStateHoldsTheValuesOfRule61 : Prop :=
  State.reset.rf.ly = 0#8 ∧ State.reset.rf.dot = 1#9 ∧ State.reset.rf.mode = .objScan ∧
  State.reset.blk.px = 0#8 ∧ State.reset.blk.wlc = 0#8 ∧ State.reset.blk.wyLatch = false ∧
  State.reset.blk.frameReady = false ∧ State.reset.blk.vblankEntered = false ∧ State.reset.blk.cursor = 0#15 ∧
  State.reset.blk.nsel = 0#4 ∧ State.reset.blk.npipe = 0#4 ∧ State.reset.blk.winVis = false ∧
  State.reset.blk.stallBudget = 0#8 ∧
  (∀ k : Fin 4, State.reset.blk.shadeRgb[k] = Config.shadeRgbDefault k) ∧
  State.reset.blk.monoPref = Config.monoPrefDefault ∧
  (∀ a, Memory.byteAt State.reset.mem.oam a = none ∧ Memory.byteAt State.reset.mem.vram0 a = none ∧
    Memory.byteAt State.reset.mem.vram1 a = none ∧ Memory.byteAt State.reset.mem.fb a = none)

/-- R152 of spec/40_scheduler.md, R79 of spec/20_memory.md: read and clear. -/
def Obligations.ReadFrameReadyTakesTheLatch : Prop :=
  (∀ w : Word, w.extractLsb' 0 4 = 0x3#4 → decode w = .ok .rdFrameReady) ∧
  ∀ s : State, s.awaitReset = false →
    exec .rdFrameReady s = .next { s with rdata := s.blk.frameReady, blk.frameReady := false } ∧
    ∀ t, exec .rdFrameReady s = .next t →
      t.blk.vblankEntered = s.blk.vblankEntered ∧ exec .rdFrameReady t = .next { t with rdata := false }

/-- R153 of spec/40_scheduler.md, R79 of spec/20_memory.md: read and clear. -/
def Obligations.ReadVBlankTakesTheLatch : Prop :=
  (∀ w : Word, w.extractLsb' 0 4 = 0x4#4 → decode w = .ok .rdVBlank) ∧
  ∀ s : State, s.awaitReset = false →
    exec .rdVBlank s = .next { s with rdata := s.blk.vblankEntered, blk.vblankEntered := false } ∧
    ∀ t, exec .rdVBlank s = .next t →
      t.blk.frameReady = s.blk.frameReady ∧ exec .rdVBlank t = .next { t with rdata := false }

/-- R238 of spec/43_pixel_renderer.md, its target a decision of the spec (D20), with its two examples. -/
def Obligations.SetPaletteWritesTheMaskedEntry : Prop :=
  (∀ w : Word, w.extractLsb' 0 4 = 0x5#4 → ∃ idx4 r g b, decode w = .ok (.setPalette idx4 r g b)) ∧
  decode 0xD0F8E005#32 = .ok (.setPalette 0#4 0xE0#8 0xF8#8 0xD0#8) ∧
  ∀ (s : State) (idx4 : BitVec 4) (r g b : Byte), ∃ t, exec (.setPalette idx4 r g b) s = .next t ∧
    t = { s with rdata := false, blk.shadeRgb := t.blk.shadeRgb } ∧
    (∀ k : Fin 4, t.blk.shadeRgb[k] =
      if k.val = idx4.toNat % 4 then { r := r, g := g, b := b } else s.blk.shadeRgb[k]) ∧
    (∀ p : Pixel, (shadeOf (paletteFor t.rf p) p.idx).toNat = idx4.toNat % 4 →
      t.monoRgb p = { r := r, g := g, b := b }) ∧
    (∀ u, exec .reset t = .next u → u.blk.shadeRgb = t.blk.shadeRgb)

/-- R239 of spec/43_pixel_renderer.md; how the two bits combine is a decision of the spec (D21). -/
def Obligations.SetMonoPrefWritesThePreference : Prop :=
  (∀ w : Word, w.extractLsb' 0 4 = 0x6#4 → decode w = .ok (.setMonoPref (w.getLsbD 4))) ∧
  decode 0x00000016#32 = .ok (.setMonoPref true) ∧
  ∀ (s : State) (pref : Bool),
    exec (.setMonoPref pref) s = .next { s with rdata := false, blk.monoPref := pref } ∧
    ∀ t, exec (.setMonoPref pref) s = .next t →
      t.onColorPath = (s.env.colorMode && !pref) ∧
      ∀ u, exec .reset t = .next u → u.blk.monoPref = pref

/-- R172, R173 of spec/41_sprite_scanner.md; the half-open span of R172 is a decision of the spec (D10). -/
def Obligations.ScanSelectsTheFirstTenQualifyingEntries : Prop :=
  ∀ s : State, ∃ t, exec (.scan false) s = .next t ∧
    let h : Nat := if s.rf.ctrl.getLsbD 2 then 16 else 8
    let q : List Nat := (List.range 40).filter (fun i =>
      decide ((s.oamByte (4 * i)).toNat ≤ s.rf.ly.toNat + 16) &&
      decide (s.rf.ly.toNat + 16 < (s.oamByte (4 * i)).toNat + h))
    t.blk.nsel.toNat = min 10 q.length ∧
    ∀ j : Fin 10, j.val < t.blk.nsel.toNat → ∃ i, q[j.val]? = some i ∧ t.blk.sel[j] =
      { y := s.oamByte (4 * i), x := s.oamByte (4 * i + 1), tile := s.oamByte (4 * i + 2), attr := s.oamByte (4 * i + 3) }

/-- R171 of spec/41_sprite_scanner.md. -/
def Obligations.ScanUnderDmaLeavesNoSprite : Prop :=
  ∀ s : State, ∃ t, exec (.scan true) s = .next t ∧
    t.blk.nsel = 0#4 ∧ t.blk.npipe = 0#4 ∧ t.blk.stallBudget = 216#8 ∧
    ∀ oam : Memory, exec (.scan true) { s with mem.oam := oam } = .next { t with mem.oam := oam }

/-- R170, R176 of spec/41_sprite_scanner.md, R51 of spec/10_state.md: the frame of SCAN. -/
def Obligations.ScanWritesOnlyTheSpriteSets : Prop :=
  ∀ (s : State) (dma : Bool), ∃ t, exec (.scan dma) s = .next t ∧
    t = { s with
      blk.sel := t.blk.sel, blk.nsel := t.blk.nsel, blk.pipeSpr := t.blk.pipeSpr, blk.npipe := t.blk.npipe,
      blk.stallBudget := 216#8 } ∧
    t.blk.nsel.toNat ≤ 10 ∧ t.blk.npipe = t.blk.nsel ∧
    ∀ j : Fin 10, j.val < t.blk.nsel.toNat → t.blk.pipeSpr[j] = t.blk.sel[j]

/-- R176 of spec/41_sprite_scanner.md; the stall budget is the device of the spec (D12). -/
def Obligations.LoadSpritesReplacesTheCandidates : Prop :=
  (∀ w : Word, w.extractLsb' 0 4 = 0x9#4 → decode w = .ok .loadSprites) ∧
  (∀ (s : State) (w : Word) (rest : List Input), w.extractLsb' 0 4 = 0x9#4 → s.strobe = none → s.pending = .cmd w :: rest →
    step s = .next { s with pending := rest, rdata := false }) ∧
  (∀ (s : State) (dma : Bool), exec (.scan dma) s = exec .loadSprites { s with blk := s.selection dma }) ∧
  ∀ s : State, ∃ t, exec .loadSprites s = .next t ∧
    t = { s with blk.npipe := s.blk.nsel, blk.pipeSpr := t.blk.pipeSpr, blk.stallBudget := 216#8 } ∧
    (∀ j : Fin 10, t.blk.pipeSpr[j] = if j.val < s.blk.nsel.toNat then s.blk.sel[j] else s.blk.pipeSpr[j]) ∧
    t.blk.winVis = s.blk.winVis

/-- R192, R193 of spec/42_pixel_pipeline.md, for every value of the free choice FetchTiming. -/
def Obligations.PipeClockStallsOrYieldsOnePixel : Prop :=
  ∀ s : State, s.blk.px.toNat < 160 →
    exec .pipeClock s = .next
      (if 0 < s.blk.stallBudget.toNat ∧ s.drawStall = true then
        { s with blk.stallBudget := s.blk.stallBudget - 1#8, draws := s.draws + 1, pixWire := none }
      else
        { s with
          blk.winVis := s.winActive s.blk.px.toNat
          draws := s.draws + 1
          pixWire := some (s.compose s.blk.px.toNat) })

/-- R250 of spec/60_exceptions.md: the operation is total. R196 of spec/42_pixel_pipeline.md gives Compose(x) a value for x from 0 to 159 only, so the pixel is the model's free value (notes/assumptions/17.md), and the statement holds for every value of it. -/
def Obligations.PipeClockPastTheLastColumnYieldsAFreePixel : Prop :=
  ∀ s : State, 160 ≤ s.blk.px.toNat →
    exec .pipeClock s = .next
      (if 0 < s.blk.stallBudget.toNat ∧ s.drawStall = true then
        { s with blk.stallBudget := s.blk.stallBudget - 1#8, draws := s.draws + 1, pixWire := none }
      else
        { s with
          blk.winVis := s.winActive s.blk.px.toNat
          draws := s.draws + 1
          pixWire := some (Config.pixelPastLine s.draws s.rf s.blk s.env s.mem) })

/-- R195 of spec/42_pixel_pipeline.md. The result wire as state is the model's own (notes/assumptions/2.md). -/
def Obligations.WindowVisibleReportsAndChangesNothing : Prop :=
  (∀ w : Word, w.extractLsb' 0 4 = 0xB#4 → decode w = .ok .windowVisible) ∧
  ∀ s : State, exec .windowVisible s = .next { s with winWire := s.blk.winVis }

/-- R199 of spec/42_pixel_pipeline.md. That WinX is x + 7 >= RF.WX is the decision of the spec (D14, from general knowledge). -/
def Obligations.WindowConditionsFollowRule199 : Prop :=
  ∀ (s : State) (x : Nat),
    (s.winActive x = true ↔ s.rf.ctrl.getLsbD 5 = true ∧ s.blk.wyLatch = true ∧ s.rf.wx.toNat ≤ x + 7) ∧
    (∀ v : Byte, v.getLsbD 5 = s.rf.ctrl.getLsbD 5 → ({ s with rf.ctrl := v } : State).winActive x = s.winActive x) ∧
    (∀ y, x ≤ y → s.winActive x = true → s.winActive y = true) ∧
    (x + 8 ≤ s.rf.wx.toNat → s.winActive x = false) ∧
    (s.rf.wx.toNat ≤ x + 7 → s.winActive x = (s.rf.ctrl.getLsbD 5 && s.blk.wyLatch)) ∧
    (s.rf.wx.toNat ≤ 7 → s.winActive x = (s.rf.ctrl.getLsbD 5 && s.blk.wyLatch)) ∧
    (167 ≤ s.rf.wx.toNat → x ≤ 159 → s.winActive x = false)

/-- R203 of spec/42_pixel_pipeline.md, a decision of the spec (D15, from general knowledge). -/
def Obligations.TileDataAddressesFollowRule203 : Prop :=
  (∀ t : Byte, tileAddr true t = 16 * t.toNat) ∧
  (∀ t : Byte, (tileAddr false t : Int) = 0x1000 + 16 * (if t.toNat ≤ 127 then (t.toNat : Int) else (t.toNat : Int) - 256)) ∧
  tileAddr false 0x00#8 = 0x1000 ∧ tileAddr false 0x7F#8 = 0x17F0 ∧
  tileAddr false 0x80#8 = 0x0800 ∧ tileAddr false 0xFF#8 = 0x0FF0

/-- R87 of spec/20_memory.md, which the spec derives from R71, R72, R74. -/
def Obligations.EveryFetchAddressIsInItsSpace : Prop :=
  (∀ (s : State) (i : Nat), i ≤ 39 →
    4 * i + 3 ≤ 159 ∧
    s.oamEntry i =
      { y := s.oamByte (4 * i), x := s.oamByte (4 * i + 1), tile := s.oamByte (4 * i + 2), attr := s.oamByte (4 * i + 3) }) ∧
  (∀ (s t : State) (dma : Bool), t.rf = s.rf → t.blk = s.blk → (∀ a, a ≤ 159 → t.oamByte a = s.oamByte a) →
    t.selection dma = s.selection dma) ∧
  (∀ (sel : Bool) (bx by' : Nat), bx < 256 → by' < 256 → 0x1800 ≤ mapAddr sel bx by' ∧ mapAddr sel bx by' ≤ 0x1FFF) ∧
  (∀ (s : State) (x : Nat), x ≤ 159 →
    0x1800 ≤ mapAddr s.rf.winMap (x + 7 - s.rf.wx.toNat) s.blk.wlc.toNat ∧
    mapAddr s.rf.winMap (x + 7 - s.rf.wx.toNat) s.blk.wlc.toNat ≤ 0x1FFF) ∧
  (∀ (t : Byte) (r : Nat), r ≤ 7 → tileAddr true t + 2 * r + 1 ≤ 0x0FFF) ∧
  (∀ (t : Byte) (r : Nat), r ≤ 7 → 0x0800 ≤ tileAddr false t + 2 * r ∧ tileAddr false t + 2 * r + 1 ≤ 0x17FF) ∧
  (∀ (rf : RegFile) (e : ObjEntry), 0 ≤ shownRow rf e → shownRow rf e < rf.spriteHeight → spriteRowAddr rf e + 1 ≤ 0x0FFF) ∧
  (∀ s : State, s.blk.cursor.toNat ≤ 23039 → s.tripletAddr + 2 ≤ 69119)

/-- R198, R200, R201, R202, R205 of spec/42_pixel_pipeline.md. -/
def Obligations.UnderLayerFollowsItsRules : Prop :=
  ∀ (s : State) (x : Nat),
    let pix (base bx by' : Nat) : BitVec 2 :=
      let a := tileAddr (s.rf.ctrl.getLsbD 4) (s.vram0Byte (base + 32 * (by' / 8) + bx / 8)) + 2 * (by' % 8)
      BitVec.ofNat 2 (2 * ((s.vram0Byte (a + 1)).getLsbD (7 - bx % 8)).toNat + ((s.vram0Byte a).getLsbD (7 - bx % 8)).toNat)
    (s.rf.ctrl.getLsbD 0 = false →
      s.underPixel x = { src := .blank, idx := 0#2, pal := false, prio := false }) ∧
    (s.rf.ctrl.getLsbD 0 = true → s.winActive x = true →
      s.underPixel x =
        { src := .win
          idx := pix (if s.rf.ctrl.getLsbD 6 then 0x1C00 else 0x1800) (x + 7 - s.rf.wx.toNat) s.blk.wlc.toNat
          pal := false
          prio := false }) ∧
    (s.rf.ctrl.getLsbD 0 = true → s.winActive x = false →
      s.underPixel x =
        { src := .bg
          idx := pix (if s.rf.ctrl.getLsbD 3 then 0x1C00 else 0x1800)
            ((x + s.rf.scx.toNat) % 256) ((s.rf.ly.toNat + s.rf.scy.toNat) % 256)
          pal := false
          prio := false })

/-- R207 of spec/42_pixel_pipeline.md, written with one subtraction per coordinate. The third clause rests on notes/assumptions/11.md and is the model's choice: a row at or past the height, which R207 leaves unspecified (U3), and a row below 0, which R212 excludes, offer a free value. -/
def Obligations.SpritePixelFollowsRule207 : Prop :=
  ∀ (s : State) (j : Nat) (e : ObjEntry) (x : Nat),
    ((x + 8 < e.x.toNat ∨ e.x.toNat ≤ x) → s.sprPix j e x = none) ∧
    (e.x.toNat ≤ x + 8 → x < e.x.toNat → ∀ (h row r col : Nat) (tile : Byte),
      h = (if s.rf.ctrl.getLsbD 2 then 16 else 8) →
      s.rf.ly.toNat + 16 = e.y.toNat + row → row < h →
      r = (if e.attr.getLsbD 6 then h - 1 - row else row) →
      tile = (if s.rf.ctrl.getLsbD 2 then (if r < 8 then e.tile &&& 0xFE#8 else e.tile ||| 0x01#8) else e.tile) →
      col = (if e.attr.getLsbD 5 then 7 - (x + 8 - e.x.toNat) else x + 8 - e.x.toNat) →
      s.sprPix j e x =
        if s.tilePix (16 * tile.toNat + 2 * (r % 8)) col = 0#2 then none
        else some
          { idx := s.tilePix (16 * tile.toNat + 2 * (r % 8)) col, pal := e.attr.getLsbD 4, prio := e.attr.getLsbD 7 }) ∧
    (e.x.toNat ≤ x + 8 → x < e.x.toNat →
      (s.rf.ly.toNat + 16 < e.y.toNat ∨ e.y.toNat + s.rf.spriteHeight ≤ s.rf.ly.toNat + 16) →
      s.sprPix j e x = Config.staleCandidate s.draws j s.rf s.blk s.env s.mem)

/-- R208 of spec/42_pixel_pipeline.md, a decision of the spec (D17). -/
def Obligations.FirstSlotInSetOrderSuppliesTheSprite : Prop :=
  ∀ (s : State) (x : Nat), s.blk.npipe.toNat ≤ 10 →
    (∀ c : Candidate, s.sprCand x = some c ↔
      ∃ j : Fin 10, j.val < s.blk.npipe.toNat ∧ s.sprPix j.val s.blk.pipeSpr[j] x = some c ∧
        ∀ i : Fin 10, i.val < j.val → s.sprPix i.val s.blk.pipeSpr[i] x = none) ∧
    (s.sprCand x = none ↔
      ∀ j : Fin 10, j.val < s.blk.npipe.toNat → s.sprPix j.val s.blk.pipeSpr[j] x = none)

/-- R210 of spec/42_pixel_pipeline.md. The gate by RF.CTRL[1] and the reading of the background index are decisions of the spec (D18). -/
def Obligations.CompositingFollowsTheTableOfRule210 : Prop :=
  ∀ (s : State) (x : Nat),
    (s.rf.ctrl.getLsbD 1 = false → s.compose x = s.underPixel x) ∧
    (s.sprCand x = none → s.compose x = s.underPixel x) ∧
    (∀ c, s.rf.ctrl.getLsbD 1 = true → s.sprCand x = some c → c.prio = false →
      s.compose x = { src := .spr, idx := c.idx, pal := c.pal, prio := c.prio }) ∧
    (∀ c, s.rf.ctrl.getLsbD 1 = true → s.sprCand x = some c → c.prio = true → (s.underPixel x).idx = 0#2 →
      s.compose x = { src := .spr, idx := c.idx, pal := c.pal, prio := c.prio }) ∧
    (∀ c, s.rf.ctrl.getLsbD 1 = true → s.sprCand x = some c → c.prio = true → (s.underPixel x).idx ≠ 0#2 →
      s.compose x = s.underPixel x)

/-- R196 of spec/42_pixel_pipeline.md. The premise RowsInHeight leaves out U3, where the value is free. -/
def Obligations.ComposeReadsNothingBeyondRule196 : Prop :=
  ∀ (s t : State) (x : Nat), s.blk.npipe.toNat ≤ 10 → s.RowsInHeight → SameComposeInputs s t → t.compose x = s.compose x

/-- R230, R231, R232, R234 of spec/43_pixel_renderer.md. -/
def Obligations.MonochromeRenderWritesTheShadeTriplet : Prop :=
  ∀ (s : State) (idx : BitVec 2) (src : Src) (pal prio : Bool) (reg : Byte) (k : Fin 4),
    (s.env.colorMode = false ∨ s.blk.monoPref = true) → s.blk.cursor.toNat < 23040 →
    reg = (if src = .spr then (if pal then s.rf.obp1 else s.rf.obp0) else s.rf.bgp) →
    k.val = reg.toNat / 4 ^ idx.toNat % 4 →
    ∃ t, exec (.renderPixel idx src pal prio) s = .next t ∧
      t = { s with mem.fb := t.mem.fb, blk.cursor := s.blk.cursor + 1#15 } ∧
      t.blk.cursor.toNat = s.blk.cursor.toNat + 1 ∧
      Memory.byteAt t.mem.fb (3 * s.blk.cursor.toNat) = some s.blk.shadeRgb[k].r ∧
      Memory.byteAt t.mem.fb (3 * s.blk.cursor.toNat + 1) = some s.blk.shadeRgb[k].g ∧
      Memory.byteAt t.mem.fb (3 * s.blk.cursor.toNat + 2) = some s.blk.shadeRgb[k].b ∧
      ∀ a, (a < 3 * s.blk.cursor.toNat ∨ 3 * s.blk.cursor.toNat + 2 < a) →
        Memory.byteAt t.mem.fb a = Memory.byteAt s.mem.fb a

/-- R230, R232, R233, R234 of spec/43_pixel_renderer.md, for every value of the open parameter ColorPath. -/
def Obligations.ColourRenderWritesTheColorPathTriplet : Prop :=
  ∀ (s : State) (idx : BitVec 2) (src : Src) (pal prio : Bool) (c : Rgb),
    s.env.colorMode = true → s.blk.monoPref = false → s.blk.cursor.toNat < 23040 →
    c = Config.colorPath { src := src, idx := idx, pal := pal, prio := prio }
      { px := s.blk.px, rf := s.rf, cpal := s.env.cpal, vram0 := fun a => s.vram0Byte a.val,
        vram1 := fun a => s.vram1Byte a.val, pipeSpr := s.blk.pipeSpr, npipe := s.blk.npipe } →
    ∃ t, exec (.renderPixel idx src pal prio) s = .next t ∧
      t = { s with mem.fb := t.mem.fb, blk.cursor := s.blk.cursor + 1#15 } ∧
      Memory.byteAt t.mem.fb (3 * s.blk.cursor.toNat) = some c.r ∧
      Memory.byteAt t.mem.fb (3 * s.blk.cursor.toNat + 1) = some c.g ∧
      Memory.byteAt t.mem.fb (3 * s.blk.cursor.toNat + 2) = some c.b ∧
      ∀ a, (a < 3 * s.blk.cursor.toNat ∨ 3 * s.blk.cursor.toNat + 2 < a) →
        Memory.byteAt t.mem.fb a = Memory.byteAt s.mem.fb a

/-- R236 of spec/43_pixel_renderer.md calls a cursor of 23040 unreachable and U17 of spec/93_implementation_defined.md a fault. For 23041 to 32767 R250 of spec/60_exceptions.md has the operation complete; that no byte changes there is the model's choice (notes/assumptions/16.md). -/
def Obligations.RenderOnAFullBufferFaults : Prop :=
  ∀ (s : State) (idx : BitVec 2) (src : Src) (pal prio : Bool),
    (s.blk.cursor.toNat = 23040 → exec (.renderPixel idx src pal prio) s = .fault .cursorOverrun) ∧
    (23040 < s.blk.cursor.toNat →
      exec (.renderPixel idx src pal prio) s = .next { s with blk.cursor := s.blk.cursor + 1#15 })

/-- R132 of spec/40_scheduler.md, R25 of spec/10_state.md, R250 of spec/60_exceptions.md: the operation is total. Legal is the invariant stated by StepKeepsTheInvariant. -/
def Obligations.ClockCompletesAndAdvancesOneDot : Prop :=
  ∀ (s : State) (dma : Bool), s.Legal → s.awaitReset = false →
    ∃ t, exec (.clock dma) s = .next t ∧ t.rdata = false ∧
      (s.rf.dot.toNat < 456 → t.rf.dot.toNat = s.rf.dot.toNat + 1 ∧ t.rf.ly = s.rf.ly) ∧
      (s.rf.dot.toNat = 456 → t.rf.dot.toNat = 1 ∧
        t.rf.ly.toNat = if s.rf.ly.toNat = 153 then 0 else s.rf.ly.toNat + 1) ∧
      t.position = (s.position + 1) % 70224

/-- R140 of spec/40_scheduler.md, which the spec derives from R131 and R150. -/
def Obligations.ModeIsAFunctionOfThePosition : Prop :=
  (∀ (s t : State) (dma : Bool), s.Legal → exec (.clock dma) s = .next t →
    (144 ≤ t.rf.ly.toNat → t.rf.mode = .vblank) ∧
    (t.rf.ly.toNat < 144 → t.rf.dot.toNat ≤ 80 → t.rf.mode = .objScan) ∧
    (t.rf.ly.toNat < 144 → 81 ≤ t.rf.dot.toNat → t.blk.px.toNat < 160 → t.rf.mode = .xfer) ∧
    (t.rf.ly.toNat < 144 → 81 ≤ t.rf.dot.toNat → t.blk.px.toNat = 160 → t.rf.mode = .hblank)) ∧
  (∀ s t : State, exec .reset s = .next t → t.rf.ly.toNat < 144 ∧ t.rf.dot.toNat ≤ 80 ∧ t.rf.mode = .objScan)

/-- R138 of spec/40_scheduler.md, for every state; which index it compares is a decision of the spec (D29). -/
def Obligations.ClockRecomputesCoincidence : Prop :=
  ∀ (s t : State) (dma : Bool), exec (.clock dma) s = .next t → t.rf.coin = decide (t.rf.ly = s.rf.lyc)

/-- R135 of spec/40_scheduler.md, with the decision of the spec against setting the latches again on lines 145 to 153 (D8, C1). -/
def Obligations.EnteringLine144SetsBothLatches : Prop :=
  ∀ (s t : State) (dma : Bool), s.PositionLegal → exec (.clock dma) s = .next t →
    ((t.rf.ly.toNat = 144 ∧ t.rf.dot.toNat = 1) →
      t.blk.frameReady = true ∧ t.blk.vblankEntered = true ∧ t.blk.cursor = 0#15) ∧
    (¬(t.rf.ly.toNat = 144 ∧ t.rf.dot.toNat = 1) →
      t.blk.frameReady = s.blk.frameReady ∧ t.blk.vblankEntered = s.blk.vblankEntered ∧
      (t.blk.cursor = s.blk.cursor ∨ t.blk.cursor = s.blk.cursor + 1#15)) ∧
    ((144 ≤ t.rf.ly.toNat ∧ t.rf.dot.toNat = 1) → t.rf.mode = .vblank)

/-- R134 of spec/40_scheduler.md for the compare. That the latch clears at the wrap to line 0, before the compare, is R133 of spec/40_scheduler.md and R46 of spec/10_state.md, the spec's own reading (decision D9 of spec/92_eei_decisions.md). -/
def Obligations.WindowYLatchIsSetAtTheLineStart : Prop :=
  ∀ (s t : State) (dma : Bool), s.PositionLegal → exec (.clock dma) s = .next t →
    (t.rf.dot.toNat ≠ 1 → t.blk.wyLatch = s.blk.wyLatch) ∧
    (t.rf.dot.toNat = 1 →
      t.blk.wyLatch =
        if t.rf.ly.toNat < 144 ∧ t.rf.ly = s.rf.wy then true
        else if t.rf.ly.toNat = 0 then false
        else s.blk.wyLatch) ∧
    (t.rf.dot.toNat = 1 → t.rf.ly.toNat < 144 → t.rf.mode = .objScan)

/-- R133 of spec/40_scheduler.md, R45 of spec/10_state.md. -/
def Obligations.WindowLineCounterAdvancesAtTheWrap : Prop :=
  ∀ (s t : State) (dma : Bool), s.PositionLegal → exec (.clock dma) s = .next t →
    (t.rf.dot.toNat ≠ 1 → t.blk.wlc = s.blk.wlc) ∧
    (t.rf.dot.toNat = 1 →
      t.blk.wlc = if t.rf.ly.toNat = 0 then 0#8 else if s.blk.winVis then s.blk.wlc + 1#8 else s.blk.wlc)

/-- R136 of spec/40_scheduler.md, its reading of the dot a decision of the spec (D7, D28), R44, R54, R59 of spec/10_state.md, R170 of spec/41_sprite_scanner.md. Legal is the invariant stated by StepKeepsTheInvariant. -/
def Obligations.ScannerRunsExactlyAtDot80OfVisibleLines : Prop :=
  ∀ (s t : State) (dma : Bool), s.Legal → exec (.clock dma) s = .next t →
    (s.rf.dot.toNat = 79 → s.rf.ly.toNat < 144 →
      ∃ u, exec (.scan dma) s = .next u ∧
        t.blk.sel = u.blk.sel ∧ t.blk.nsel = u.blk.nsel ∧ t.blk.pipeSpr = u.blk.pipeSpr ∧ t.blk.npipe = u.blk.npipe ∧
        t.blk.px = 0#8 ∧ t.blk.stallBudget = u.blk.stallBudget) ∧
    (¬(s.rf.dot.toNat = 79 ∧ s.rf.ly.toNat < 144) →
      exec (.clock (!dma)) s = .next t ∧
      t.blk.sel = s.blk.sel ∧ t.blk.nsel = s.blk.nsel ∧ t.blk.pipeSpr = s.blk.pipeSpr ∧ t.blk.npipe = s.blk.npipe ∧
      (144 ≤ t.rf.ly.toNat ∨ t.rf.dot.toNat ≤ 80 → t.blk.px = s.blk.px ∧ t.blk.stallBudget = s.blk.stallBudget) ∧
      (t.rf.ly.toNat < 144 → 81 ≤ t.rf.dot.toNat →
        (s.blk.px.toNat < 160 ∧ t.blk.px.toNat = s.blk.px.toNat + 1 ∧ t.blk.stallBudget = s.blk.stallBudget) ∨
        (s.blk.px.toNat < 160 ∧ t.blk.px = s.blk.px ∧ t.blk.stallBudget.toNat + 1 = s.blk.stallBudget.toNat) ∨
        (s.blk.px.toNat = 160 ∧ t.blk.px = s.blk.px ∧ t.blk.stallBudget = s.blk.stallBudget))) ∧
    (s.rf.dot.toNat = 79 → 144 ≤ s.rf.ly.toNat →
      t = { s with rf.dot := 80#9, rf.coin := decide (s.rf.ly = s.rf.lyc), rdata := false })

/-- Lines 29 to 35 of R131, R139 of spec/40_scheduler.md, in terms of the strobes as operations of their own. -/
def Obligations.ClockTransferIsThePipelineThenTheRenderer : Prop :=
  ∀ (s m : State) (dma : Bool), s.awaitReset = false → m = s.beforeTransfer dma →
    (m.rf.mode ≠ .xfer → exec (.clock dma) s = .next { m with rdata := false }) ∧
    (m.rf.mode = .xfer → exec (.clock dma) s =
      andThen (exec .pipeClock m) (fun u =>
        match u.pixWire with
        | none => .next
          { u with
            rdata := false
            pixWire := m.pixWire
            rf.mode := if u.blk.px.toNat = 160 then .hblank else .xfer }
        | some p =>
          andThen (exec (.renderPixel p.idx p.src p.pal p.prio) { u with pixWire := m.pixWire }) (fun v => .next
            { v with
              rdata := false
              blk.px := v.blk.px + 1#8
              rf.mode := if (v.blk.px + 1#8).toNat = 160 then .hblank else .xfer })))

/-- R22 of spec/10_state.md, R86 of spec/20_memory.md: the frame of CLOCK, for every state. -/
def Obligations.ClockWritesNoMemoryButTheTripletAtTheCursor : Prop :=
  ∀ (s t : State) (dma : Bool), exec (.clock dma) s = .next t →
    SameHostOwned s t ∧ SameModelOwned s t ∧
    t.blk.shadeRgb = s.blk.shadeRgb ∧ t.blk.monoPref = s.blk.monoPref ∧
    t.pixWire = s.pixWire ∧ t.winWire = s.winWire ∧ t.awaitReset = s.awaitReset ∧ t.rdata = false ∧
    (∀ a, (a < 3 * s.blk.cursor.toNat ∨ 3 * s.blk.cursor.toNat + 2 < a) →
      Memory.byteAt t.mem.fb a = Memory.byteAt s.mem.fb a) ∧
    (t.blk.cursor ≠ s.blk.cursor + 1#15 → t.mem.fb = s.mem.fb)

/-- R143, R139 of spec/40_scheduler.md, R86 of spec/20_memory.md. -/
def Obligations.NothingIsDrawnOutsidePixelTransfer : Prop :=
  ∀ (s t : State) (dma : Bool), s.Legal → exec (.clock dma) s = .next t →
    (144 ≤ t.rf.ly.toNat ∨ t.rf.dot.toNat ≤ 80 ∨ (81 ≤ s.rf.dot.toNat ∧ s.blk.px.toNat = 160)) →
    t.mem = s.mem ∧ t.blk.winVis = s.blk.winVis

/-- R236, R232 of spec/43_pixel_renderer.md, R74 of spec/20_memory.md, R196 of spec/42_pixel_pipeline.md for the pixel, R231 and R233 for its colour. -/
def Obligations.EveryPixelLandsAtItsRowMajorTriplet : Prop :=
  ∀ (s m t : State) (dma : Bool), s.Legal → m = s.beforeTransfer dma → exec (.clock dma) s = .next t →
    80 ≤ s.rf.dot.toNat → s.rf.dot.toNat < 456 → t.blk.px.toNat = s.blk.px.toNat + 1 →
    t.rf.ly.toNat < 144 ∧ s.blk.px.toNat ≤ 159 ∧
    s.blk.cursor.toNat = 160 * t.rf.ly.toNat + s.blk.px.toNat ∧
    t.blk.cursor.toNat = s.blk.cursor.toNat + 1 ∧
    m = { s with rf.dot := s.rf.dot + 1#9, rf.coin := decide (s.rf.ly = s.rf.lyc), rf.mode := .xfer } ∧
    Memory.byteAt t.mem.fb (3 * (160 * t.rf.ly.toNat + s.blk.px.toNat)) =
      some (m.pixelRgb (m.compose s.blk.px.toNat)).r ∧
    Memory.byteAt t.mem.fb (3 * (160 * t.rf.ly.toNat + s.blk.px.toNat) + 1) =
      some (m.pixelRgb (m.compose s.blk.px.toNat)).g ∧
    Memory.byteAt t.mem.fb (3 * (160 * t.rf.ly.toNat + s.blk.px.toNat) + 2) =
      some (m.pixelRgb (m.compose s.blk.px.toNat)).b ∧
    ∀ a, (a < 3 * (160 * t.rf.ly.toNat + s.blk.px.toNat) ∨ 3 * (160 * t.rf.ly.toNat + s.blk.px.toNat) + 2 < a) →
      Memory.byteAt t.mem.fb a = Memory.byteAt s.mem.fb a

/-- R22 of spec/10_state.md, R256 of spec/60_exceptions.md: a rule about all commands at once. -/
def Obligations.ExternalCommandsKeepToTheAccessTable : Prop :=
  ∀ (i : Instr) (s t : State), i.external = true → exec i s = .next t →
    SameHostOwned s t ∧ SameModelOwned s t ∧ t.pixWire = s.pixWire ∧ t.winWire = s.winWire ∧
    ((∀ dma, i ≠ .clock dma) → t.rf.coin = s.rf.coin ∧ t.mem.fb = s.mem.fb ∧ t.draws = s.draws) ∧
    ((∀ dma, i ≠ .clock dma) → i ≠ .reset →
      t.rf = s.rf ∧ t.blk.px = s.blk.px ∧ t.blk.wlc = s.blk.wlc ∧ t.blk.wyLatch = s.blk.wyLatch ∧
      t.blk.cursor = s.blk.cursor ∧ t.blk.sel = s.blk.sel ∧ t.blk.nsel = s.blk.nsel ∧ t.blk.pipeSpr = s.blk.pipeSpr ∧
      t.blk.npipe = s.blk.npipe ∧ t.blk.winVis = s.blk.winVis ∧ t.blk.stallBudget = s.blk.stallBudget ∧
      t.awaitReset = s.awaitReset) ∧
    ((∀ dma, i ≠ .clock dma) → i ≠ .reset → i ≠ .rdFrameReady → t.blk.frameReady = s.blk.frameReady) ∧
    ((∀ dma, i ≠ .clock dma) → i ≠ .reset → i ≠ .rdVBlank → t.blk.vblankEntered = s.blk.vblankEntered) ∧
    ((∀ idx4 r g b, i ≠ .setPalette idx4 r g b) → t.blk.shadeRgb = s.blk.shadeRgb) ∧
    ((∀ pref, i ≠ .setMonoPref pref) → t.blk.monoPref = s.blk.monoPref) ∧
    (i ≠ .rdFrameReady → i ≠ .rdVBlank → t.rdata = false)

/-- R23, R61 of spec/10_state.md. -/
def Obligations.ResetStateMeetsTheInvariant : Prop :=
  State.reset.Inv

/-- R23, R45, R51 of spec/10_state.md, R140 of spec/40_scheduler.md, R193, R211 of spec/42_pixel_pipeline.md, R236 of spec/43_pixel_renderer.md. -/
def Obligations.StepKeepsTheInvariant : Prop :=
  ∀ s t : State, s.Inv → step s = .next t → t.Inv

/-- R70, R87 of spec/20_memory.md: no premise beyond the form itself. -/
def Obligations.StepKeepsMemoriesCanonical : Prop :=
  ∀ s t : State, Mems.wf s.mem = true → step s = .next t → Mems.wf t.mem = true

/-- R250 of spec/60_exceptions.md, R276 of spec/70_reset_and_hazards.md: every operation is total and no host liberty makes the block fault or hang. -/
def Obligations.RunsFromALegalStateNeverStop : Prop :=
  ∀ (n : Nat) (s : State), s.Inv → s.awaitReset = false → .host .powerCycle ∉ s.pending →
    ∃ t : State, Sys2Proof.core.run n s = .next t ∧ t.Inv ∧ t.awaitReset = false

/-- R144 of spec/40_scheduler.md, R25 of spec/10_state.md. -/
def Obligations.ClocksAdvanceThePositionByTheirNumber : Prop :=
  ∀ (dmas : List Bool) (s : State), s.Legal → s.awaitReset = false →
    ∃ t, clocks dmas s = .next t ∧ t.Legal ∧ t.awaitReset = false ∧
      t.position = (s.position + dmas.length) % 70224 ∧
      (dmas.length = 456 → t.rf.dot = s.rf.dot ∧ t.rf.ly.toNat = (s.rf.ly.toNat + 1) % 154) ∧
      (dmas.length = 70224 → t.rf.dot = s.rf.dot ∧ t.rf.ly = s.rf.ly)

/-- R144, R135 of spec/40_scheduler.md. From position P the CLOCK that enters line 144 is number (65664 + 70224 - 1 - P) mod 70224 of the list, counted from 0. -/
def Obligations.AFrameOfClocksSetsFrameReadyOnce : Prop :=
  ∀ (dmas : List Bool) (s : State), s.Legal → s.awaitReset = false →
    ∃ t, clocks dmas s = .next t ∧
      t.blk.frameReady =
        (s.blk.frameReady || decide ((65664 + 70224 - 1 - s.position) % 70224 < dmas.length)) ∧
      t.blk.vblankEntered =
        (s.blk.vblankEntered || decide ((65664 + 70224 - 1 - s.position) % 70224 < dmas.length)) ∧
      (dmas.length = 70224 → t.blk.frameReady = true ∧ t.blk.vblankEntered = true) ∧
      (s.position + dmas.length < 65664 →
        t.blk.frameReady = s.blk.frameReady ∧ t.blk.vblankEntered = s.blk.vblankEntered)

/-- R211, R193 of spec/42_pixel_pipeline.md, R142 of spec/40_scheduler.md, for every value of FetchTiming. -/
def Obligations.EveryVisibleLineEmitsExactly160Pixels : Prop :=
  ∀ (dmas : List Bool) (s : State), s.Legal → s.awaitReset = false → s.rf.ly.toNat < 144 → s.rf.dot.toNat = 80 →
    dmas.length = 376 →
    ∃ t, clocks dmas s = .next t ∧ t.rf.ly = s.rf.ly ∧ t.rf.dot.toNat = 456 ∧ t.blk.px.toNat = 160 ∧
      t.rf.mode = .hblank ∧ t.blk.cursor.toNat = s.blk.cursor.toNat + 160

/-- R32, R43 of spec/10_state.md, R6 of spec/00_scope.md for the codes. The places of the bits are a decision of the spec (D4, from general knowledge). -/
def Obligations.StatusRegisterShowsModeCoincidenceAndHostBits : Prop :=
  (∀ rf : RegFile,
    (rf.mode = .hblank → rf.stat.extractLsb' 0 2 = 0#2) ∧
    (rf.mode = .vblank → rf.stat.extractLsb' 0 2 = 1#2) ∧
    (rf.mode = .objScan → rf.stat.extractLsb' 0 2 = 2#2) ∧
    (rf.mode = .xfer → rf.stat.extractLsb' 0 2 = 3#2) ∧
    rf.stat.getLsbD 2 = rf.coin ∧
    rf.stat.extractLsb' 3 5 = rf.statHi) ∧
  (∀ (s t : State) (dma : Bool), exec (.clock dma) s = .next t →
    t.rf.stat.extractLsb' 3 5 = s.rf.stat.extractLsb' 3 5) ∧
  (∀ s t : State, exec .reset s = .next t →
    t.rf.stat.extractLsb' 3 5 = s.rf.stat.extractLsb' 3 5 ∧ t.rf.stat.getLsbD 2 = s.rf.stat.getLsbD 2 ∧
    t.rf.stat.extractLsb' 0 2 = 2#2) ∧
  (∀ (s : State) (v : BitVec 5) (rest : List Input), s.strobe = none → s.pending = .host (.statHi v) :: rest →
    ∃ t, step s = .next t ∧ t.rf.stat.extractLsb' 3 5 = v ∧ t.rf.stat.extractLsb' 0 3 = s.rf.stat.extractLsb' 0 3)

/-- R84 of spec/20_memory.md, R276 of spec/70_reset_and_hazards.md, R22 of spec/10_state.md: the host writes each host-owned element between two commands. -/
def Obligations.HostRegisterWriteIsHeld : Prop :=
  ∀ (s : State) (rest : List Input), s.strobe = none →
    (∀ v : Byte, s.pending = .host (.ctrl v) :: rest → step s = .next { s with pending := rest, rf.ctrl := v }) ∧
    (∀ v : BitVec 5, s.pending = .host (.statHi v) :: rest → step s = .next { s with pending := rest, rf.statHi := v }) ∧
    (∀ v : Byte, s.pending = .host (.scy v) :: rest → step s = .next { s with pending := rest, rf.scy := v }) ∧
    (∀ v : Byte, s.pending = .host (.scx v) :: rest → step s = .next { s with pending := rest, rf.scx := v }) ∧
    (∀ v : Byte, s.pending = .host (.lyc v) :: rest → step s = .next { s with pending := rest, rf.lyc := v }) ∧
    (∀ v : Byte, s.pending = .host (.bgp v) :: rest → step s = .next { s with pending := rest, rf.bgp := v }) ∧
    (∀ v : Byte, s.pending = .host (.obp0 v) :: rest → step s = .next { s with pending := rest, rf.obp0 := v }) ∧
    (∀ v : Byte, s.pending = .host (.obp1 v) :: rest → step s = .next { s with pending := rest, rf.obp1 := v }) ∧
    (∀ v : Byte, s.pending = .host (.wy v) :: rest → step s = .next { s with pending := rest, rf.wy := v }) ∧
    (∀ v : Byte, s.pending = .host (.wx v) :: rest → step s = .next { s with pending := rest, rf.wx := v }) ∧
    (∀ v : Bool, s.pending = .host (.colorMode v) :: rest → step s = .next { s with pending := rest, env.colorMode := v }) ∧
    (∀ v : List Byte, s.pending = .host (.cpal v) :: rest → step s = .next { s with pending := rest, env.cpal := v })

/-- R275, R271 of spec/70_reset_and_hazards.md, R61 of spec/10_state.md: the document gives no initial values for the host-owned registers and says nothing of a boot program. The power cycle as an input is the model's own (notes/assumptions/15.md). The zeros of State.reset are its choice (notes/assumptions/4.md, 6.md) and are not stated. -/
def Obligations.PowerOnLeavesHostRegistersFree : Prop :=
  ∀ (s : State) (rest : List Input), s.strobe = none → s.pending = .host .powerCycle :: rest →
    ∃ t u, step s = .next t ∧ exec .reset t = .next u ∧
      t.rf = Config.powerOnRegs (s.epoch + 1) ∧ t.env = Config.powerOnEnv (s.epoch + 1) ∧
      u.rf = { Config.powerOnRegs (s.epoch + 1) with ly := 0#8, dot := 1#9, mode := .objScan } ∧
      u.env = Config.powerOnEnv (s.epoch + 1) ∧
      u.pending = rest ∧ u.strobe = none

/-- R250 of spec/60_exceptions.md: every operation is total in every state of R23 of spec/10_state.md. U6 and U17 of spec/93_implementation_defined.md rule the two stops. The statement goes further by the model's choice: states outside R23 (notes/assumptions/21.md, 26.md), the cursor from 23041 to 32767 (16.md), a column past 159 (17.md), and the other operations while RESET is awaited (15.md). -/
def Obligations.EveryOperationIsTotal : Prop :=
  ∀ (i : Instr) (s : State),
    (s.awaitReset = false → s.blk.cursor.toNat ≠ 23040 → ∃ t, exec i s = .next t) ∧
    ((∃ t, exec i s = .next t) ∨
     (exec i s = .fault .beforeReset ∧ s.awaitReset = true ∧
       ((∃ dma, i = .clock dma) ∨ i = .rdFrameReady ∨ i = .rdVBlank)) ∨
     (exec i s = .fault .cursorOverrun ∧ s.blk.cursor.toNat = 23040 ∧
       ((∃ dma, i = .clock dma ∧ s.awaitReset = false ∧ s.rf.dot.toNat ≠ 456) ∨
        ∃ idx src pal prio, i = .renderPixel idx src pal prio)))
end

