-- ==== Sys2Proof/Laws/Fetch.lean ====
section
/-! SUPPORT. What the command port and the strobe wires take, and what one step makes of it. -/

namespace Sys2Proof.Machine

/-- The port runs an operation only if the word decodes to it and it is an external one. -/
theorem fromPort_eq_run {w : Word} {i : Instr} : fromPort w = .run i ↔ decode w = .ok i ∧ i.external = true := by
  unfold fromPort
  split
  · rename_i j hj
    by_cases hx : j.external = true
    · rw [if_pos hx, hj]
      constructor
      · intro h
        cases h
        exact ⟨rfl, hx⟩
      · rintro ⟨h, -⟩
        cases h
        rfl
    · rw [if_neg hx, hj]
      constructor
      · intro h
        cases h
      · rintro ⟨h, h2⟩
        cases h
        exact absurd h2 hx
  · rename_i r hr
    simp [hr]

/-- A word on the port runs an external operation or is ignored. -/
theorem fromPort_cases (w : Word) :
    (∃ i, decode w = .ok i ∧ i.external = true ∧ fromPort w = .run i) ∨ fromPort w = .ignored := by
  by_cases h : ∃ i, decode w = .ok i ∧ i.external = true
  · obtain ⟨i, hi, hx⟩ := h
    exact .inl ⟨i, hi, hx, fromPort_eq_run.2 ⟨hi, hx⟩⟩
  · right
    unfold fromPort
    split
    · rename_i j hj
      exact if_neg (fun hx => h ⟨j, hj, hx⟩)
    · rfl

/-- Everything a step with no strobe waiting can do. -/
theorem step_cases {s : State} (hs : s.strobe = none) :
    (s.pending = [] ∧ step s = .next s) ∨
    (∃ w rest i, s.pending = .cmd w :: rest ∧ decode w = .ok i ∧ i.external = true ∧
      step s = exec i { s with pending := rest }) ∨
    (∃ w rest, s.pending = .cmd w :: rest ∧ step s = .next { s with pending := rest, rdata := false }) ∨
    (∃ m rest, s.pending = .host m :: rest ∧ step s = .next (hostMove m { s with pending := rest })) := by
  rcases hp : s.pending with _ | ⟨x, rest⟩
  · left
    exact ⟨rfl, by simp [step, fetch, hs, hp]⟩
  · right
    cases x with
    | cmd w =>
      rcases fromPort_cases w with ⟨i, hd, hx, h⟩ | h
      · left
        exact ⟨w, rest, i, rfl, hd, hx, by simp [step, fetch, hs, hp, h]⟩
      · right; left
        exact ⟨w, rest, rfl, by simp [step, fetch, hs, hp, h, ignoreWord, State.answer]⟩
    | host m =>
      right; right
      exact ⟨m, rest, rfl, by simp [step, fetch, hs, hp]⟩

end Sys2Proof.Machine
end

