-- ==== Sys2Proof/Laws/Memory.lean ====
section
/-! SUPPORT. One memory: a read after a write, a write leaves the rest alone, a write keeps the canonical form. -/

namespace Sys2Proof.Machine

theorem Memory.byteAt_put_same (m : Memory) (a : Nat) (v : Byte) : Memory.byteAt (Memory.put m a v) a = some v := by
  induction m with
  | nil => simp [Memory.put, Memory.byteAt]
  | cons c rest ih =>
    obtain ⟨k, w⟩ := c
    simp only [Memory.put]
    split
    · simp [Memory.byteAt]
    · split
      · simp [Memory.byteAt]
      · have : ¬ k = a := by omega
        simpa [Memory.byteAt, this] using ih

theorem Memory.byteAt_put_ne (m : Memory) {a b : Nat} (v : Byte) (h : b ≠ a) :
    Memory.byteAt (Memory.put m a v) b = Memory.byteAt m b := by
  induction m with
  | nil => simp [Memory.put, Memory.byteAt, Ne.symm h]
  | cons c rest ih =>
    obtain ⟨k, w⟩ := c
    simp only [Memory.put]
    split
    · simp [Memory.byteAt, Ne.symm h]
    · split
      · rename_i hk
        subst hk
        simp [Memory.byteAt, Ne.symm h]
      · simp only [Memory.byteAt, ih]

theorem Memory.risesFrom_put {lo a : Nat} (m : Memory) (v : Byte) (hm : Memory.risesFrom lo m = true) (ha : lo < a) :
    Memory.risesFrom lo (Memory.put m a v) = true := by
  induction m generalizing lo with
  | nil => simp [Memory.put, Memory.risesFrom, ha]
  | cons c rest ih =>
    obtain ⟨k, w⟩ := c
    simp only [Memory.risesFrom, Bool.and_eq_true, decide_eq_true_eq] at hm
    simp only [Memory.put]
    split
    · simp [Memory.risesFrom, hm.2, *]
    · split
      · rename_i hk
        subst hk
        simp [Memory.risesFrom, hm.1, hm.2]
      · have := ih hm.2 (by omega)
        simp [Memory.risesFrom, hm.1, this]

/-- A write keeps the canonical form. -/
theorem Memory.put_wf {m : Memory} (a : Nat) (v : Byte) (hm : Memory.wf m = true) :
    Memory.wf (Memory.put m a v) = true := by
  cases m with
  | nil => rfl
  | cons c rest =>
    obtain ⟨k, w⟩ := c
    have hr : Memory.risesFrom k rest = true := hm
    simp only [Memory.put]
    split
    · simp [Memory.wf, Memory.risesFrom, *]
    · split
      · rename_i hk
        subst hk
        exact hr
      · exact Memory.risesFrom_put rest v hr (by omega)

/-- A write inside a space stays inside it. -/
theorem Memory.put_inside {m : Memory} {size a : Nat} (v : Byte) (hm : Memory.inside size m = true) (ha : a < size) :
    Memory.inside size (Memory.put m a v) = true := by
  induction m with
  | nil => simp [Memory.put, Memory.inside, ha]
  | cons c rest ih =>
    obtain ⟨k, w⟩ := c
    simp only [Memory.inside, List.all_cons, Bool.and_eq_true, decide_eq_true_eq] at hm ih
    simp only [Memory.put]
    split
    · simp [Memory.inside, ha, hm.1, hm.2]
    · split
      · simp [Memory.inside, ha, hm.2]
      · have := ih hm.2
        simp [Memory.inside, hm.1, this]

theorem Mems.wf_iff (m : Mems) : Mems.wf m = true ↔
    (Memory.wf m.oam = true ∧ Memory.inside 160 m.oam = true) ∧
    (Memory.wf m.vram0 = true ∧ Memory.inside 8192 m.vram0 = true) ∧
    (Memory.wf m.vram1 = true ∧ Memory.inside 8192 m.vram1 = true) ∧
    (Memory.wf m.fb = true ∧ Memory.inside 69120 m.fb = true) := by
  simp [Mems.wf, and_assoc]

end Sys2Proof.Machine
end

