-- ==== Sys2Proof/Laws/State.lean ====
section
/-! SUPPORT. One lemma per part of the state per named update: what the update makes of that part. -/

namespace Sys2Proof.Machine

@[simp] theorem State.answer_rf (s : State) (v : Bool) : (s.answer v).rf = s.rf := rfl
@[simp] theorem State.answer_blk (s : State) (v : Bool) : (s.answer v).blk = s.blk := rfl
@[simp] theorem State.answer_env (s : State) (v : Bool) : (s.answer v).env = s.env := rfl
@[simp] theorem State.answer_mem (s : State) (v : Bool) : (s.answer v).mem = s.mem := rfl
@[simp] theorem State.answer_rdata (s : State) (v : Bool) : (s.answer v).rdata = v := rfl
@[simp] theorem State.answer_pixWire (s : State) (v : Bool) : (s.answer v).pixWire = s.pixWire := rfl
@[simp] theorem State.answer_winWire (s : State) (v : Bool) : (s.answer v).winWire = s.winWire := rfl
@[simp] theorem State.answer_pending (s : State) (v : Bool) : (s.answer v).pending = s.pending := rfl
@[simp] theorem State.answer_strobe (s : State) (v : Bool) : (s.answer v).strobe = s.strobe := rfl
@[simp] theorem State.answer_awaitReset (s : State) (v : Bool) : (s.answer v).awaitReset = s.awaitReset := rfl
@[simp] theorem State.answer_draws (s : State) (v : Bool) : (s.answer v).draws = s.draws := rfl
@[simp] theorem State.answer_epoch (s : State) (v : Bool) : (s.answer v).epoch = s.epoch := rfl

@[simp] theorem State.setMode_rf (s : State) (m : Mode) : (s.setMode m).rf = { s.rf with mode := m } := rfl
@[simp] theorem State.setMode_blk (s : State) (m : Mode) : (s.setMode m).blk = s.blk := rfl
@[simp] theorem State.setMode_env (s : State) (m : Mode) : (s.setMode m).env = s.env := rfl
@[simp] theorem State.setMode_mem (s : State) (m : Mode) : (s.setMode m).mem = s.mem := rfl
@[simp] theorem State.setMode_rdata (s : State) (m : Mode) : (s.setMode m).rdata = s.rdata := rfl
@[simp] theorem State.setMode_pixWire (s : State) (m : Mode) : (s.setMode m).pixWire = s.pixWire := rfl
@[simp] theorem State.setMode_winWire (s : State) (m : Mode) : (s.setMode m).winWire = s.winWire := rfl
@[simp] theorem State.setMode_pending (s : State) (m : Mode) : (s.setMode m).pending = s.pending := rfl
@[simp] theorem State.setMode_strobe (s : State) (m : Mode) : (s.setMode m).strobe = s.strobe := rfl
@[simp] theorem State.setMode_awaitReset (s : State) (m : Mode) : (s.setMode m).awaitReset = s.awaitReset := rfl
@[simp] theorem State.setMode_draws (s : State) (m : Mode) : (s.setMode m).draws = s.draws := rfl
@[simp] theorem State.setMode_epoch (s : State) (m : Mode) : (s.setMode m).epoch = s.epoch := rfl

@[simp] theorem State.recomputeCoin_rf (s : State) : (s.recomputeCoin).rf = { s.rf with coin := decide (s.rf.ly = s.rf.lyc) } := rfl
@[simp] theorem State.recomputeCoin_blk (s : State) : (s.recomputeCoin).blk = s.blk := rfl
@[simp] theorem State.recomputeCoin_env (s : State) : (s.recomputeCoin).env = s.env := rfl
@[simp] theorem State.recomputeCoin_mem (s : State) : (s.recomputeCoin).mem = s.mem := rfl
@[simp] theorem State.recomputeCoin_rdata (s : State) : (s.recomputeCoin).rdata = s.rdata := rfl
@[simp] theorem State.recomputeCoin_pixWire (s : State) : (s.recomputeCoin).pixWire = s.pixWire := rfl
@[simp] theorem State.recomputeCoin_winWire (s : State) : (s.recomputeCoin).winWire = s.winWire := rfl
@[simp] theorem State.recomputeCoin_pending (s : State) : (s.recomputeCoin).pending = s.pending := rfl
@[simp] theorem State.recomputeCoin_strobe (s : State) : (s.recomputeCoin).strobe = s.strobe := rfl
@[simp] theorem State.recomputeCoin_awaitReset (s : State) : (s.recomputeCoin).awaitReset = s.awaitReset := rfl
@[simp] theorem State.recomputeCoin_draws (s : State) : (s.recomputeCoin).draws = s.draws := rfl
@[simp] theorem State.recomputeCoin_epoch (s : State) : (s.recomputeCoin).epoch = s.epoch := rfl

@[simp] theorem State.latchWindowY_rf (s : State) (l : Nat) : (s.latchWindowY l).rf = s.rf := by
  unfold State.latchWindowY; split <;> rfl
@[simp] theorem State.latchWindowY_blk (s : State) (l : Nat) : (s.latchWindowY l).blk = 
    { s.blk with wyLatch := decide (l = s.rf.wy.toNat) || s.blk.wyLatch } := by
  unfold State.latchWindowY; split <;> simp [*]
@[simp] theorem State.latchWindowY_env (s : State) (l : Nat) : (s.latchWindowY l).env = s.env := by
  unfold State.latchWindowY; split <;> rfl
@[simp] theorem State.latchWindowY_mem (s : State) (l : Nat) : (s.latchWindowY l).mem = s.mem := by
  unfold State.latchWindowY; split <;> rfl
@[simp] theorem State.latchWindowY_rdata (s : State) (l : Nat) : (s.latchWindowY l).rdata = s.rdata := by
  unfold State.latchWindowY; split <;> rfl
@[simp] theorem State.latchWindowY_pixWire (s : State) (l : Nat) : (s.latchWindowY l).pixWire = s.pixWire := by
  unfold State.latchWindowY; split <;> rfl
@[simp] theorem State.latchWindowY_winWire (s : State) (l : Nat) : (s.latchWindowY l).winWire = s.winWire := by
  unfold State.latchWindowY; split <;> rfl
@[simp] theorem State.latchWindowY_pending (s : State) (l : Nat) : (s.latchWindowY l).pending = s.pending := by
  unfold State.latchWindowY; split <;> rfl
@[simp] theorem State.latchWindowY_strobe (s : State) (l : Nat) : (s.latchWindowY l).strobe = s.strobe := by
  unfold State.latchWindowY; split <;> rfl
@[simp] theorem State.latchWindowY_awaitReset (s : State) (l : Nat) : (s.latchWindowY l).awaitReset = s.awaitReset := by
  unfold State.latchWindowY; split <;> rfl
@[simp] theorem State.latchWindowY_draws (s : State) (l : Nat) : (s.latchWindowY l).draws = s.draws := by
  unfold State.latchWindowY; split <;> rfl
@[simp] theorem State.latchWindowY_epoch (s : State) (l : Nat) : (s.latchWindowY l).epoch = s.epoch := by
  unfold State.latchWindowY; split <;> rfl

@[simp] theorem State.enterVBlank_rf (s : State) : (s.enterVBlank).rf = s.rf := rfl
@[simp] theorem State.enterVBlank_blk (s : State) : (s.enterVBlank).blk = 
    { s.blk with cursor := 0#15, frameReady := true, vblankEntered := true } := rfl
@[simp] theorem State.enterVBlank_env (s : State) : (s.enterVBlank).env = s.env := rfl
@[simp] theorem State.enterVBlank_mem (s : State) : (s.enterVBlank).mem = s.mem := rfl
@[simp] theorem State.enterVBlank_rdata (s : State) : (s.enterVBlank).rdata = s.rdata := rfl
@[simp] theorem State.enterVBlank_pixWire (s : State) : (s.enterVBlank).pixWire = s.pixWire := rfl
@[simp] theorem State.enterVBlank_winWire (s : State) : (s.enterVBlank).winWire = s.winWire := rfl
@[simp] theorem State.enterVBlank_pending (s : State) : (s.enterVBlank).pending = s.pending := rfl
@[simp] theorem State.enterVBlank_strobe (s : State) : (s.enterVBlank).strobe = s.strobe := rfl
@[simp] theorem State.enterVBlank_awaitReset (s : State) : (s.enterVBlank).awaitReset = s.awaitReset := rfl
@[simp] theorem State.enterVBlank_draws (s : State) : (s.enterVBlank).draws = s.draws := rfl
@[simp] theorem State.enterVBlank_epoch (s : State) : (s.enterVBlank).epoch = s.epoch := rfl

@[simp] theorem State.takeFrameReady_rf (s : State) : (s.takeFrameReady).rf = s.rf := rfl
@[simp] theorem State.takeFrameReady_blk (s : State) : (s.takeFrameReady).blk = { s.blk with frameReady := false } := rfl
@[simp] theorem State.takeFrameReady_env (s : State) : (s.takeFrameReady).env = s.env := rfl
@[simp] theorem State.takeFrameReady_mem (s : State) : (s.takeFrameReady).mem = s.mem := rfl
@[simp] theorem State.takeFrameReady_rdata (s : State) : (s.takeFrameReady).rdata = s.blk.frameReady := rfl
@[simp] theorem State.takeFrameReady_pixWire (s : State) : (s.takeFrameReady).pixWire = s.pixWire := rfl
@[simp] theorem State.takeFrameReady_winWire (s : State) : (s.takeFrameReady).winWire = s.winWire := rfl
@[simp] theorem State.takeFrameReady_pending (s : State) : (s.takeFrameReady).pending = s.pending := rfl
@[simp] theorem State.takeFrameReady_strobe (s : State) : (s.takeFrameReady).strobe = s.strobe := rfl
@[simp] theorem State.takeFrameReady_awaitReset (s : State) : (s.takeFrameReady).awaitReset = s.awaitReset := rfl
@[simp] theorem State.takeFrameReady_draws (s : State) : (s.takeFrameReady).draws = s.draws := rfl
@[simp] theorem State.takeFrameReady_epoch (s : State) : (s.takeFrameReady).epoch = s.epoch := rfl

@[simp] theorem State.takeVBlankEntered_rf (s : State) : (s.takeVBlankEntered).rf = s.rf := rfl
@[simp] theorem State.takeVBlankEntered_blk (s : State) : (s.takeVBlankEntered).blk = { s.blk with vblankEntered := false } := rfl
@[simp] theorem State.takeVBlankEntered_env (s : State) : (s.takeVBlankEntered).env = s.env := rfl
@[simp] theorem State.takeVBlankEntered_mem (s : State) : (s.takeVBlankEntered).mem = s.mem := rfl
@[simp] theorem State.takeVBlankEntered_rdata (s : State) : (s.takeVBlankEntered).rdata = s.blk.vblankEntered := rfl
@[simp] theorem State.takeVBlankEntered_pixWire (s : State) : (s.takeVBlankEntered).pixWire = s.pixWire := rfl
@[simp] theorem State.takeVBlankEntered_winWire (s : State) : (s.takeVBlankEntered).winWire = s.winWire := rfl
@[simp] theorem State.takeVBlankEntered_pending (s : State) : (s.takeVBlankEntered).pending = s.pending := rfl
@[simp] theorem State.takeVBlankEntered_strobe (s : State) : (s.takeVBlankEntered).strobe = s.strobe := rfl
@[simp] theorem State.takeVBlankEntered_awaitReset (s : State) : (s.takeVBlankEntered).awaitReset = s.awaitReset := rfl
@[simp] theorem State.takeVBlankEntered_draws (s : State) : (s.takeVBlankEntered).draws = s.draws := rfl
@[simp] theorem State.takeVBlankEntered_epoch (s : State) : (s.takeVBlankEntered).epoch = s.epoch := rfl

@[simp] theorem State.putTriplet_rf (s : State) (c : Rgb) : (s.putTriplet c).rf = s.rf := rfl
@[simp] theorem State.putTriplet_blk (s : State) (c : Rgb) : (s.putTriplet c).blk = s.blk := rfl
@[simp] theorem State.putTriplet_env (s : State) (c : Rgb) : (s.putTriplet c).env = s.env := rfl
@[simp] theorem State.putTriplet_mem (s : State) (c : Rgb) : (s.putTriplet c).mem = 
    { s.mem with
      fb := Memory.put (Memory.put (Memory.put s.mem.fb s.tripletAddr c.r) (s.tripletAddr + 1) c.g) (s.tripletAddr + 2) c.b } := rfl
@[simp] theorem State.putTriplet_rdata (s : State) (c : Rgb) : (s.putTriplet c).rdata = s.rdata := rfl
@[simp] theorem State.putTriplet_pixWire (s : State) (c : Rgb) : (s.putTriplet c).pixWire = s.pixWire := rfl
@[simp] theorem State.putTriplet_winWire (s : State) (c : Rgb) : (s.putTriplet c).winWire = s.winWire := rfl
@[simp] theorem State.putTriplet_pending (s : State) (c : Rgb) : (s.putTriplet c).pending = s.pending := rfl
@[simp] theorem State.putTriplet_strobe (s : State) (c : Rgb) : (s.putTriplet c).strobe = s.strobe := rfl
@[simp] theorem State.putTriplet_awaitReset (s : State) (c : Rgb) : (s.putTriplet c).awaitReset = s.awaitReset := rfl
@[simp] theorem State.putTriplet_draws (s : State) (c : Rgb) : (s.putTriplet c).draws = s.draws := rfl
@[simp] theorem State.putTriplet_epoch (s : State) (c : Rgb) : (s.putTriplet c).epoch = s.epoch := rfl

@[simp] theorem State.advanceCursor_rf (s : State) : (s.advanceCursor).rf = s.rf := rfl
@[simp] theorem State.advanceCursor_blk (s : State) : (s.advanceCursor).blk = { s.blk with cursor := s.blk.cursor + 1#15 } := rfl
@[simp] theorem State.advanceCursor_env (s : State) : (s.advanceCursor).env = s.env := rfl
@[simp] theorem State.advanceCursor_mem (s : State) : (s.advanceCursor).mem = s.mem := rfl
@[simp] theorem State.advanceCursor_rdata (s : State) : (s.advanceCursor).rdata = s.rdata := rfl
@[simp] theorem State.advanceCursor_pixWire (s : State) : (s.advanceCursor).pixWire = s.pixWire := rfl
@[simp] theorem State.advanceCursor_winWire (s : State) : (s.advanceCursor).winWire = s.winWire := rfl
@[simp] theorem State.advanceCursor_pending (s : State) : (s.advanceCursor).pending = s.pending := rfl
@[simp] theorem State.advanceCursor_strobe (s : State) : (s.advanceCursor).strobe = s.strobe := rfl
@[simp] theorem State.advanceCursor_awaitReset (s : State) : (s.advanceCursor).awaitReset = s.awaitReset := rfl
@[simp] theorem State.advanceCursor_draws (s : State) : (s.advanceCursor).draws = s.draws := rfl
@[simp] theorem State.advanceCursor_epoch (s : State) : (s.advanceCursor).epoch = s.epoch := rfl

@[simp] theorem State.stall_rf (s : State) : (s.stall).rf = s.rf := rfl
@[simp] theorem State.stall_blk (s : State) : (s.stall).blk = { s.blk with stallBudget := s.blk.stallBudget - 1#8 } := rfl
@[simp] theorem State.stall_env (s : State) : (s.stall).env = s.env := rfl
@[simp] theorem State.stall_mem (s : State) : (s.stall).mem = s.mem := rfl
@[simp] theorem State.stall_rdata (s : State) : (s.stall).rdata = s.rdata := rfl
@[simp] theorem State.stall_pixWire (s : State) : (s.stall).pixWire = s.pixWire := rfl
@[simp] theorem State.stall_winWire (s : State) : (s.stall).winWire = s.winWire := rfl
@[simp] theorem State.stall_pending (s : State) : (s.stall).pending = s.pending := rfl
@[simp] theorem State.stall_strobe (s : State) : (s.stall).strobe = s.strobe := rfl
@[simp] theorem State.stall_awaitReset (s : State) : (s.stall).awaitReset = s.awaitReset := rfl
@[simp] theorem State.stall_draws (s : State) : (s.stall).draws = s.draws + 1 := rfl
@[simp] theorem State.stall_epoch (s : State) : (s.stall).epoch = s.epoch := rfl

@[simp] theorem State.yielded_rf (s : State) : (s.yielded).rf = s.rf := rfl
@[simp] theorem State.yielded_blk (s : State) : (s.yielded).blk = { s.blk with winVis := s.winActive s.blk.px.toNat } := rfl
@[simp] theorem State.yielded_env (s : State) : (s.yielded).env = s.env := rfl
@[simp] theorem State.yielded_mem (s : State) : (s.yielded).mem = s.mem := rfl
@[simp] theorem State.yielded_rdata (s : State) : (s.yielded).rdata = s.rdata := rfl
@[simp] theorem State.yielded_pixWire (s : State) : (s.yielded).pixWire = s.pixWire := rfl
@[simp] theorem State.yielded_winWire (s : State) : (s.yielded).winWire = s.winWire := rfl
@[simp] theorem State.yielded_pending (s : State) : (s.yielded).pending = s.pending := rfl
@[simp] theorem State.yielded_strobe (s : State) : (s.yielded).strobe = s.strobe := rfl
@[simp] theorem State.yielded_awaitReset (s : State) : (s.yielded).awaitReset = s.awaitReset := rfl
@[simp] theorem State.yielded_draws (s : State) : (s.yielded).draws = s.draws + 1 := rfl
@[simp] theorem State.yielded_epoch (s : State) : (s.yielded).epoch = s.epoch := rfl

@[simp] theorem State.countPixel_rf (s : State) : (s.countPixel).rf = s.rf := rfl
@[simp] theorem State.countPixel_blk (s : State) : (s.countPixel).blk = { s.blk with px := s.blk.px + 1#8 } := rfl
@[simp] theorem State.countPixel_env (s : State) : (s.countPixel).env = s.env := rfl
@[simp] theorem State.countPixel_mem (s : State) : (s.countPixel).mem = s.mem := rfl
@[simp] theorem State.countPixel_rdata (s : State) : (s.countPixel).rdata = s.rdata := rfl
@[simp] theorem State.countPixel_pixWire (s : State) : (s.countPixel).pixWire = s.pixWire := rfl
@[simp] theorem State.countPixel_winWire (s : State) : (s.countPixel).winWire = s.winWire := rfl
@[simp] theorem State.countPixel_pending (s : State) : (s.countPixel).pending = s.pending := rfl
@[simp] theorem State.countPixel_strobe (s : State) : (s.countPixel).strobe = s.strobe := rfl
@[simp] theorem State.countPixel_awaitReset (s : State) : (s.countPixel).awaitReset = s.awaitReset := rfl
@[simp] theorem State.countPixel_draws (s : State) : (s.countPixel).draws = s.draws := rfl
@[simp] theorem State.countPixel_epoch (s : State) : (s.countPixel).epoch = s.epoch := rfl

@[simp] theorem State.setShade_rf (s : State) (k : BitVec 2) (c : Rgb) : (s.setShade k c).rf = s.rf := rfl
@[simp] theorem State.setShade_blk (s : State) (k : BitVec 2) (c : Rgb) : (s.setShade k c).blk = { s.blk with shadeRgb := s.blk.shadeRgb.set k.toNat c k.isLt } := rfl
@[simp] theorem State.setShade_env (s : State) (k : BitVec 2) (c : Rgb) : (s.setShade k c).env = s.env := rfl
@[simp] theorem State.setShade_mem (s : State) (k : BitVec 2) (c : Rgb) : (s.setShade k c).mem = s.mem := rfl
@[simp] theorem State.setShade_rdata (s : State) (k : BitVec 2) (c : Rgb) : (s.setShade k c).rdata = s.rdata := rfl
@[simp] theorem State.setShade_pixWire (s : State) (k : BitVec 2) (c : Rgb) : (s.setShade k c).pixWire = s.pixWire := rfl
@[simp] theorem State.setShade_winWire (s : State) (k : BitVec 2) (c : Rgb) : (s.setShade k c).winWire = s.winWire := rfl
@[simp] theorem State.setShade_pending (s : State) (k : BitVec 2) (c : Rgb) : (s.setShade k c).pending = s.pending := rfl
@[simp] theorem State.setShade_strobe (s : State) (k : BitVec 2) (c : Rgb) : (s.setShade k c).strobe = s.strobe := rfl
@[simp] theorem State.setShade_awaitReset (s : State) (k : BitVec 2) (c : Rgb) : (s.setShade k c).awaitReset = s.awaitReset := rfl
@[simp] theorem State.setShade_draws (s : State) (k : BitVec 2) (c : Rgb) : (s.setShade k c).draws = s.draws := rfl
@[simp] theorem State.setShade_epoch (s : State) (k : BitVec 2) (c : Rgb) : (s.setShade k c).epoch = s.epoch := rfl

@[simp] theorem State.endOfTransfer_rf (s : State) : (s.endOfTransfer).rf = 
    { s.rf with mode := if s.blk.px.toNat = 160 then .hblank else s.rf.mode } := by
  unfold State.endOfTransfer; split <;> simp_all
@[simp] theorem State.endOfTransfer_blk (s : State) : (s.endOfTransfer).blk = s.blk := by
  unfold State.endOfTransfer; split <;> rfl
@[simp] theorem State.endOfTransfer_env (s : State) : (s.endOfTransfer).env = s.env := by
  unfold State.endOfTransfer; split <;> rfl
@[simp] theorem State.endOfTransfer_mem (s : State) : (s.endOfTransfer).mem = s.mem := by
  unfold State.endOfTransfer; split <;> rfl
@[simp] theorem State.endOfTransfer_rdata (s : State) : (s.endOfTransfer).rdata = s.rdata := by
  unfold State.endOfTransfer; split <;> rfl
@[simp] theorem State.endOfTransfer_pixWire (s : State) : (s.endOfTransfer).pixWire = s.pixWire := by
  unfold State.endOfTransfer; split <;> rfl
@[simp] theorem State.endOfTransfer_winWire (s : State) : (s.endOfTransfer).winWire = s.winWire := by
  unfold State.endOfTransfer; split <;> rfl
@[simp] theorem State.endOfTransfer_pending (s : State) : (s.endOfTransfer).pending = s.pending := by
  unfold State.endOfTransfer; split <;> rfl
@[simp] theorem State.endOfTransfer_strobe (s : State) : (s.endOfTransfer).strobe = s.strobe := by
  unfold State.endOfTransfer; split <;> rfl
@[simp] theorem State.endOfTransfer_awaitReset (s : State) : (s.endOfTransfer).awaitReset = s.awaitReset := by
  unfold State.endOfTransfer; split <;> rfl
@[simp] theorem State.endOfTransfer_draws (s : State) : (s.endOfTransfer).draws = s.draws := by
  unfold State.endOfTransfer; split <;> rfl
@[simp] theorem State.endOfTransfer_epoch (s : State) : (s.endOfTransfer).epoch = s.epoch := by
  unfold State.endOfTransfer; split <;> rfl

@[simp] theorem State.wrapDot_rf (s : State) : (s.wrapDot).rf = { s.rf with dot := 1#9 } := by
  unfold State.wrapDot; split <;> rfl
@[simp] theorem State.wrapDot_blk (s : State) : (s.wrapDot).blk = 
    { s.blk with wlc := if s.blk.winVis then s.blk.wlc + 1#8 else s.blk.wlc } := by
  unfold State.wrapDot opWindowVisible
  by_cases h : s.blk.winVis = true
  · rw [if_pos h, if_pos h]
  · rw [if_neg h, if_neg h]
@[simp] theorem State.wrapDot_env (s : State) : (s.wrapDot).env = s.env := by
  unfold State.wrapDot; split <;> rfl
@[simp] theorem State.wrapDot_mem (s : State) : (s.wrapDot).mem = s.mem := by
  unfold State.wrapDot; split <;> rfl
@[simp] theorem State.wrapDot_rdata (s : State) : (s.wrapDot).rdata = s.rdata := by
  unfold State.wrapDot; split <;> rfl
@[simp] theorem State.wrapDot_pixWire (s : State) : (s.wrapDot).pixWire = s.pixWire := by
  unfold State.wrapDot; split <;> rfl
@[simp] theorem State.wrapDot_winWire (s : State) : (s.wrapDot).winWire = s.winWire := by
  unfold State.wrapDot; split <;> rfl
@[simp] theorem State.wrapDot_pending (s : State) : (s.wrapDot).pending = s.pending := by
  unfold State.wrapDot; split <;> rfl
@[simp] theorem State.wrapDot_strobe (s : State) : (s.wrapDot).strobe = s.strobe := by
  unfold State.wrapDot; split <;> rfl
@[simp] theorem State.wrapDot_awaitReset (s : State) : (s.wrapDot).awaitReset = s.awaitReset := by
  unfold State.wrapDot; split <;> rfl
@[simp] theorem State.wrapDot_draws (s : State) : (s.wrapDot).draws = s.draws := by
  unfold State.wrapDot; split <;> rfl
@[simp] theorem State.wrapDot_epoch (s : State) : (s.wrapDot).epoch = s.epoch := by
  unfold State.wrapDot; split <;> rfl

@[simp] theorem State.nextLine_rf (s : State) : (s.nextLine).rf = { s.rf with ly := BitVec.ofNat 8 (nextLineIndex s.rf.ly) } := by
  unfold State.nextLine nextLineIndex; split <;> rfl
@[simp] theorem State.nextLine_blk (s : State) : (s.nextLine).blk = 
    { s.blk with
      wlc := if s.rf.ly.toNat + 1 = 154 then 0#8 else s.blk.wlc
      wyLatch := if s.rf.ly.toNat + 1 = 154 then false else s.blk.wyLatch } := by
  unfold State.nextLine; split <;> simp_all
@[simp] theorem State.nextLine_env (s : State) : (s.nextLine).env = s.env := by
  unfold State.nextLine; split <;> rfl
@[simp] theorem State.nextLine_mem (s : State) : (s.nextLine).mem = s.mem := by
  unfold State.nextLine; split <;> rfl
@[simp] theorem State.nextLine_rdata (s : State) : (s.nextLine).rdata = s.rdata := by
  unfold State.nextLine; split <;> rfl
@[simp] theorem State.nextLine_pixWire (s : State) : (s.nextLine).pixWire = s.pixWire := by
  unfold State.nextLine; split <;> rfl
@[simp] theorem State.nextLine_winWire (s : State) : (s.nextLine).winWire = s.winWire := by
  unfold State.nextLine; split <;> rfl
@[simp] theorem State.nextLine_pending (s : State) : (s.nextLine).pending = s.pending := by
  unfold State.nextLine; split <;> rfl
@[simp] theorem State.nextLine_strobe (s : State) : (s.nextLine).strobe = s.strobe := by
  unfold State.nextLine; split <;> rfl
@[simp] theorem State.nextLine_awaitReset (s : State) : (s.nextLine).awaitReset = s.awaitReset := by
  unfold State.nextLine; split <;> rfl
@[simp] theorem State.nextLine_draws (s : State) : (s.nextLine).draws = s.draws := by
  unfold State.nextLine; split <;> rfl
@[simp] theorem State.nextLine_epoch (s : State) : (s.nextLine).epoch = s.epoch := by
  unfold State.nextLine; split <;> rfl

@[simp] theorem State.startLine_rf (s : State) (l : Nat) : (s.startLine l).rf = 
    { s.rf with mode := if l < 144 then .objScan else .vblank } := by
  unfold State.startLine
  by_cases h : l < 144
  · simp [h]
  · by_cases h2 : l = 144 <;> simp [h, h2]
@[simp] theorem State.startLine_blk (s : State) (l : Nat) : (s.startLine l).blk = 
    { s.blk with
      wyLatch := (decide (l < 144) && decide (l = s.rf.wy.toNat)) || s.blk.wyLatch
      cursor := if l = 144 then 0#15 else s.blk.cursor
      frameReady := decide (l = 144) || s.blk.frameReady
      vblankEntered := decide (l = 144) || s.blk.vblankEntered } := by
  unfold State.startLine
  by_cases h : l < 144
  · have h2 : l ≠ 144 := by omega
    simp [h, h2]
    rfl
  · by_cases h2 : l = 144 <;> simp [h, h2]
@[simp] theorem State.startLine_env (s : State) (l : Nat) : (s.startLine l).env = s.env := by
  unfold State.startLine; split
  · simp
  · split <;> simp
@[simp] theorem State.startLine_mem (s : State) (l : Nat) : (s.startLine l).mem = s.mem := by
  unfold State.startLine; split
  · simp
  · split <;> simp
@[simp] theorem State.startLine_rdata (s : State) (l : Nat) : (s.startLine l).rdata = s.rdata := by
  unfold State.startLine; split
  · simp
  · split <;> simp
@[simp] theorem State.startLine_pixWire (s : State) (l : Nat) : (s.startLine l).pixWire = s.pixWire := by
  unfold State.startLine; split
  · simp
  · split <;> simp
@[simp] theorem State.startLine_winWire (s : State) (l : Nat) : (s.startLine l).winWire = s.winWire := by
  unfold State.startLine; split
  · simp
  · split <;> simp
@[simp] theorem State.startLine_pending (s : State) (l : Nat) : (s.startLine l).pending = s.pending := by
  unfold State.startLine; split
  · simp
  · split <;> simp
@[simp] theorem State.startLine_strobe (s : State) (l : Nat) : (s.startLine l).strobe = s.strobe := by
  unfold State.startLine; split
  · simp
  · split <;> simp
@[simp] theorem State.startLine_awaitReset (s : State) (l : Nat) : (s.startLine l).awaitReset = s.awaitReset := by
  unfold State.startLine; split
  · simp
  · split <;> simp
@[simp] theorem State.startLine_draws (s : State) (l : Nat) : (s.startLine l).draws = s.draws := by
  unfold State.startLine; split
  · simp
  · split <;> simp
@[simp] theorem State.startLine_epoch (s : State) (l : Nat) : (s.startLine l).epoch = s.epoch := by
  unfold State.startLine; split
  · simp
  · split <;> simp

@[simp] theorem opLoadSprites_rf (s : State) : (opLoadSprites s).rf = s.rf := rfl
@[simp] theorem opLoadSprites_blk (s : State) : (opLoadSprites s).blk = 
    { s.blk with
      npipe := s.blk.nsel
      pipeSpr := Vector.ofFn (fun j : Fin 10 => if j.val < s.blk.nsel.toNat then s.blk.sel[j] else s.blk.pipeSpr[j])
      stallBudget := 216#8 } := rfl
@[simp] theorem opLoadSprites_env (s : State) : (opLoadSprites s).env = s.env := rfl
@[simp] theorem opLoadSprites_mem (s : State) : (opLoadSprites s).mem = s.mem := rfl
@[simp] theorem opLoadSprites_rdata (s : State) : (opLoadSprites s).rdata = s.rdata := rfl
@[simp] theorem opLoadSprites_pixWire (s : State) : (opLoadSprites s).pixWire = s.pixWire := rfl
@[simp] theorem opLoadSprites_winWire (s : State) : (opLoadSprites s).winWire = s.winWire := rfl
@[simp] theorem opLoadSprites_pending (s : State) : (opLoadSprites s).pending = s.pending := rfl
@[simp] theorem opLoadSprites_strobe (s : State) : (opLoadSprites s).strobe = s.strobe := rfl
@[simp] theorem opLoadSprites_awaitReset (s : State) : (opLoadSprites s).awaitReset = s.awaitReset := rfl
@[simp] theorem opLoadSprites_draws (s : State) : (opLoadSprites s).draws = s.draws := rfl
@[simp] theorem opLoadSprites_epoch (s : State) : (opLoadSprites s).epoch = s.epoch := rfl

@[simp] theorem opScan_rf (s : State) (dma : Bool) : (opScan dma s).rf = s.rf := rfl
@[simp] theorem opScan_env (s : State) (dma : Bool) : (opScan dma s).env = s.env := rfl
@[simp] theorem opScan_mem (s : State) (dma : Bool) : (opScan dma s).mem = s.mem := rfl
@[simp] theorem opScan_rdata (s : State) (dma : Bool) : (opScan dma s).rdata = s.rdata := rfl
@[simp] theorem opScan_pixWire (s : State) (dma : Bool) : (opScan dma s).pixWire = s.pixWire := rfl
@[simp] theorem opScan_winWire (s : State) (dma : Bool) : (opScan dma s).winWire = s.winWire := rfl
@[simp] theorem opScan_pending (s : State) (dma : Bool) : (opScan dma s).pending = s.pending := rfl
@[simp] theorem opScan_strobe (s : State) (dma : Bool) : (opScan dma s).strobe = s.strobe := rfl
@[simp] theorem opScan_awaitReset (s : State) (dma : Bool) : (opScan dma s).awaitReset = s.awaitReset := rfl
@[simp] theorem opScan_draws (s : State) (dma : Bool) : (opScan dma s).draws = s.draws := rfl
@[simp] theorem opScan_epoch (s : State) (dma : Bool) : (opScan dma s).epoch = s.epoch := rfl

@[simp] theorem powerCycle_rf (s : State) : (powerCycle s).rf = Config.powerOnRegs (s.epoch + 1) := rfl
@[simp] theorem powerCycle_env (s : State) : (powerCycle s).env = Config.powerOnEnv (s.epoch + 1) := rfl
@[simp] theorem powerCycle_mem (s : State) : (powerCycle s).mem = { oam := [], vram0 := [], vram1 := [], fb := [] } := rfl
@[simp] theorem powerCycle_rdata (s : State) : (powerCycle s).rdata = s.rdata := rfl
@[simp] theorem powerCycle_pixWire (s : State) : (powerCycle s).pixWire = s.pixWire := rfl
@[simp] theorem powerCycle_winWire (s : State) : (powerCycle s).winWire = s.winWire := rfl
@[simp] theorem powerCycle_pending (s : State) : (powerCycle s).pending = s.pending := rfl
@[simp] theorem powerCycle_strobe (s : State) : (powerCycle s).strobe = s.strobe := rfl
@[simp] theorem powerCycle_awaitReset (s : State) : (powerCycle s).awaitReset = true := rfl
@[simp] theorem powerCycle_draws (s : State) : (powerCycle s).draws = s.draws := rfl
@[simp] theorem powerCycle_epoch (s : State) : (powerCycle s).epoch = s.epoch + 1 := rfl

end Sys2Proof.Machine
end

