-- ==== Sys2Proof/Laws/Ops.lean ====
section
/-! SUPPORT. One lemma per shared operation that says everything it can do: the outcomes, the Pipeline's strobe, the
Renderer, the Scanner's loop. -/

namespace Sys2Proof.Machine

open Host (Outcome)

/-! ### Outcomes -/

@[simp] theorem andThen_next {α β : Type} (a : α) (f : α → Outcome β Fault Refusal) :
    andThen (.next a) f = f a := rfl

theorem andThen_eq_next {α β : Type} {o : Outcome α Fault Refusal} {f : α → Outcome β Fault Refusal} {b : β} :
    andThen o f = .next b ↔ ∃ a, o = .next a ∧ f a = .next b := by
  cases o <;> simp [andThen]

theorem afterReset_eq_next {s : State} {o : Outcome State Fault Refusal} {t : State} :
    afterReset s o = .next t ↔ s.awaitReset = false ∧ o = .next t := by
  unfold afterReset
  cases s.awaitReset <;> simp

theorem afterReset_ready {s : State} (h : s.awaitReset = false) (o : Outcome State Fault Refusal) : afterReset s o = o := by
  simp [afterReset, h]

theorem afterReset_waiting {s : State} (h : s.awaitReset = true) (o : Outcome State Fault Refusal) :
    afterReset s o = .fault .beforeReset := by
  simp [afterReset, h]

/-! ### The Pipeline -/

theorem pixelAt_of_lt {s : State} {x : Nat} (h : x < 160) : s.pixelAt x = s.compose x := if_pos h

/-- Everything PIPE_CLOCK can do: spend a stall, or yield the pixel of the column `S.PX`. -/
theorem opPipeClock_cases (s : State) :
    (0 < s.blk.stallBudget.toNat ∧ s.drawStall = true ∧ opPipeClock s = (none, s.stall)) ∨
    ((s.blk.stallBudget.toNat = 0 ∨ s.drawStall = false) ∧
      opPipeClock s = (some (s.pixelAt s.blk.px.toNat), s.yielded)) := by
  unfold opPipeClock
  by_cases hb : 0 < s.blk.stallBudget.toNat
  · cases hd : s.drawStall
    · right; simp
    · left; simp [hb]
  · have h0 : s.blk.stallBudget.toNat = 0 := by omega
    right; simp [h0]

/-! ### The Renderer -/

/-- A triplet inside the frame buffer is written. -/
theorem storeTriplet_inside {s : State} (h : s.blk.cursor.toNat < 23040) (c : Rgb) : s.storeTriplet c = s.putTriplet c :=
  if_pos (by unfold State.tripletAddr; omega)

/-- A triplet past the end of the frame buffer changes nothing. -/
theorem storeTriplet_outside {s : State} (h : 23040 ≤ s.blk.cursor.toNat) (c : Rgb) : s.storeTriplet c = s :=
  if_neg (by unfold State.tripletAddr; omega)

/-- Everything RENDER_PIXEL can do: write one triplet at the cursor, stop on a full buffer, or write no byte past it. -/
theorem opRenderPixel_cases (p : Pixel) (s : State) :
    (s.blk.cursor.toNat < 23040 ∧ opRenderPixel p s = .next (s.putTriplet (s.pixelRgb p)).advanceCursor) ∨
    (s.blk.cursor.toNat = 23040 ∧ opRenderPixel p s = .fault .cursorOverrun) ∨
    (23040 < s.blk.cursor.toNat ∧ opRenderPixel p s = .next s.advanceCursor) := by
  unfold opRenderPixel
  rcases Nat.lt_trichotomy s.blk.cursor.toNat 23040 with h | h | h
  · left
    exact ⟨h, by rw [if_neg (by omega), storeTriplet_inside h]⟩
  · right; left
    exact ⟨h, if_pos h⟩
  · right; right
    exact ⟨h, by rw [if_neg (by omega), storeTriplet_outside (by omega)]⟩

/-- The colour of a pixel reads nothing that a strobe which yields it writes. -/
theorem yielded_pixelRgb (s : State) (p : Pixel) : s.yielded.pixelRgb p = s.pixelRgb p := rfl

/-- The three bytes a triplet leaves in the frame buffer, and that no other byte moves. -/
theorem putTriplet_byteAt (s : State) (c : Rgb) (a : Nat) :
    Memory.byteAt (s.putTriplet c).mem.fb a =
      if a = s.tripletAddr then some c.r
      else if a = s.tripletAddr + 1 then some c.g
      else if a = s.tripletAddr + 2 then some c.b
      else Memory.byteAt s.mem.fb a := by
  simp only [State.putTriplet_mem]
  split
  · rename_i h
    subst h
    rw [Memory.byteAt_put_ne _ _ (by omega), Memory.byteAt_put_ne _ _ (by omega), Memory.byteAt_put_same]
  · split
    · rename_i h
      subst h
      rw [Memory.byteAt_put_ne _ _ (by omega), Memory.byteAt_put_same]
    · split
      · rename_i h
        subst h
        rw [Memory.byteAt_put_same]
      · rw [Memory.byteAt_put_ne _ _ (by omega), Memory.byteAt_put_ne _ _ (by omega),
          Memory.byteAt_put_ne _ _ (by omega)]

/-- A triplet below the end of the buffer keeps the memories well formed. -/
theorem putTriplet_wf {s : State} (c : Rgb) (hm : Mems.wf s.mem = true) (hc : s.blk.cursor.toNat < 23040) :
    Mems.wf (s.putTriplet c).mem = true := by
  rw [Mems.wf_iff] at hm ⊢
  obtain ⟨h1, h2, h3, h4, h5⟩ := hm
  refine ⟨h1, h2, h3, ?_, ?_⟩
  · exact Memory.put_wf _ _ (Memory.put_wf _ _ (Memory.put_wf _ _ h4))
  · have ht : s.tripletAddr + 2 < 69120 := by unfold State.tripletAddr; omega
    exact Memory.put_inside _ (Memory.put_inside _ (Memory.put_inside _ h5 (by omega)) (by omega)) ht

/-! ### The Scanner -/

/-- The loop writes the selected set and nothing else. -/
theorem scanLoop_frame (s : State) (todo : List Nat) (b : Block) :
    scanLoop s b todo = { b with sel := (scanLoop s b todo).sel, nsel := (scanLoop s b todo).nsel } := by
  induction todo generalizing b with
  | nil => rfl
  | cons i rest ih =>
    simp only [scanLoop]
    split
    · rfl
    · split
      · exact ih (b.select (s.oamEntry i))
      · exact ih b

/-- The loop never selects an eleventh entry. -/
theorem scanLoop_nsel_le (s : State) (todo : List Nat) (b : Block) (h : b.nsel.toNat ≤ 10) :
    (scanLoop s b todo).nsel.toNat ≤ 10 := by
  induction todo generalizing b with
  | nil => exact h
  | cons i rest ih =>
    rw [scanLoop]
    split_ifs with hten hq
    · exact h
    · have hlt : b.nsel.toNat ≠ 10 := hten
      refine ih _ ?_
      simp only [Block.select, BitVec.toNat_add, BitVec.toNat_ofNat]
      omega
    · exact ih b h

/-- The loop reads `RF.LY`, `RF.CTRL` and the entries it examines: it is the same in two states that agree on them. -/
theorem scanLoop_congr {s t : State} (hq : ∀ e, qualifies t.rf e = qualifies s.rf e) (todo : List Nat)
    (ho : ∀ i ∈ todo, t.oamEntry i = s.oamEntry i) (b : Block) : scanLoop t b todo = scanLoop s b todo := by
  induction todo generalizing b with
  | nil => rfl
  | cons i rest ih =>
    have hi := ho i (by simp)
    have hr := ih fun k hk => ho k (by simp [hk])
    simp only [scanLoop, hq, hi, hr]

/-- SCAN selects from the first 160 bytes of `OAM` (R87). -/
theorem selection_congr {s t : State} (hrf : t.rf = s.rf) (hblk : t.blk = s.blk)
    (ho : ∀ a, a ≤ 159 → t.oamByte a = s.oamByte a) (dma : Bool) : t.selection dma = s.selection dma := by
  have he : ∀ i ∈ List.range 40, t.oamEntry i = s.oamEntry i := by
    intro i hi
    have : i < 40 := List.mem_range.1 hi
    simp only [State.oamEntry, ho (4 * i) (by omega), ho (4 * i + 1) (by omega), ho (4 * i + 2) (by omega),
      ho (4 * i + 3) (by omega)]
  simp only [State.selection, hblk, scanLoop_congr (s := s) (t := t) (fun e => by rw [hrf]) (List.range 40) he]

/-- Whatever is selected already qualifies and stays, and whatever the loop adds qualifies. -/
theorem scanLoop_selected (s : State) (todo : List Nat) (b : Block) (hn : b.nsel.toNat ≤ 10)
    (hb : ∀ j : Fin 10, j.val < b.nsel.toNat → qualifies s.rf b.sel[j] = true) :
    ∀ j : Fin 10, j.val < (scanLoop s b todo).nsel.toNat → qualifies s.rf (scanLoop s b todo).sel[j] = true := by
  induction todo generalizing b with
  | nil => exact hb
  | cons i rest ih =>
    rw [scanLoop]
    split_ifs with hten hq
    · exact hb
    · have hne : b.nsel.toNat ≠ 10 := hten
      have hs : (b.select (s.oamEntry i)).nsel.toNat = b.nsel.toNat + 1 := by
        simp only [Block.select, BitVec.toNat_add, BitVec.toNat_ofNat]
        omega
      refine ih _ (by omega) ?_
      intro j hj
      rw [hs] at hj
      simp only [Block.select, Fin.getElem_fin, Vector.getElem_setIfInBounds]
      split_ifs with hj2
      · exact hq
      · exact hb j (by omega)
    · exact ih b hn hb

/-- What the loop selects: with `pre` the entries already examined, the first ten qualifying entries of `pre` and `todo`
in order. -/
theorem scanLoop_filter (s : State) (todo pre : List Nat) (b : Block)
    (hb : b.nsel.toNat = min 10 (pre.filter (fun i => qualifies s.rf (s.oamEntry i))).length)
    (hs : ∀ j : Fin 10, j.val < b.nsel.toNat →
      ∃ i, (pre.filter (fun i => qualifies s.rf (s.oamEntry i)))[j.val]? = some i ∧ b.sel[j] = s.oamEntry i) :
    (scanLoop s b todo).nsel.toNat = min 10 ((pre ++ todo).filter (fun i => qualifies s.rf (s.oamEntry i))).length ∧
    ∀ j : Fin 10, j.val < (scanLoop s b todo).nsel.toNat →
      ∃ i, ((pre ++ todo).filter (fun i => qualifies s.rf (s.oamEntry i)))[j.val]? = some i ∧
        (scanLoop s b todo).sel[j] = s.oamEntry i := by
  induction todo generalizing pre b with
  | nil => simpa [scanLoop] using ⟨hb, hs⟩
  | cons x rest ih =>
    have happ : pre ++ x :: rest = (pre ++ [x]) ++ rest := by simp
    rw [scanLoop]
    split_ifs with h1 h2
    · have h10 : b.nsel.toNat = 10 := h1
      refine ⟨?_, ?_⟩
      · rw [h10, List.filter_append, List.length_append]
        omega
      · intro j hj
        obtain ⟨i, hi, hi2⟩ := hs j hj
        refine ⟨i, ?_, hi2⟩
        rw [List.filter_append, List.getElem?_append_left, hi]
        exact (List.getElem?_eq_some_iff.1 hi).1
    · have h10 : b.nsel.toNat ≠ 10 := h1
      have hf : (pre ++ [x]).filter (fun i => qualifies s.rf (s.oamEntry i)) =
          pre.filter (fun i => qualifies s.rf (s.oamEntry i)) ++ [x] := by simp [List.filter_append, h2]
      have hn : (b.select (s.oamEntry x)).nsel.toNat = b.nsel.toNat + 1 := by
        simp only [Block.select, BitVec.toNat_add, BitVec.toNat_ofNat]
        omega
      rw [happ]
      refine ih (pre ++ [x]) _ ?_ ?_
      · rw [hf, hn, List.length_append]
        simp only [List.length_cons, List.length_nil]
        omega
      · intro j hj
        rw [hn] at hj
        rw [hf]
        by_cases hj2 : j.val = b.nsel.toNat
        · refine ⟨x, ?_, ?_⟩
          · rw [hj2, List.getElem?_append_right (by omega),
              show b.nsel.toNat - (pre.filter (fun i => qualifies s.rf (s.oamEntry i))).length = 0 by omega]
            rfl
          · simp [Block.select, hj2]
        · obtain ⟨i, hi, hi2⟩ := hs j (by omega)
          refine ⟨i, ?_, ?_⟩
          · rw [List.getElem?_append_left, hi]
            exact (List.getElem?_eq_some_iff.1 hi).1
          · rw [← hi2]
            simp [Block.select, Vector.getElem_setIfInBounds]
            omega
    · have hf : (pre ++ [x]).filter (fun i => qualifies s.rf (s.oamEntry i)) =
          pre.filter (fun i => qualifies s.rf (s.oamEntry i)) := by simp [List.filter_append, h2]
      rw [happ]
      refine ih (pre ++ [x]) _ ?_ ?_
      · rw [hf]
        exact hb
      · rw [hf]
        exact hs

/-- The selection writes the set and nothing else, never holds an eleventh entry, and holds qualifying entries only. -/
theorem selection_spec (s : State) (dma : Bool) :
    s.selection dma = { s.blk with sel := (s.selection dma).sel, nsel := (s.selection dma).nsel } ∧
    (s.selection dma).nsel.toNat ≤ 10 ∧
    ∀ j : Fin 10, j.val < (s.selection dma).nsel.toNat → qualifies s.rf (s.selection dma).sel[j] = true := by
  cases dma with
  | true =>
    refine ⟨rfl, by simp [State.selection, Block.clearSet], ?_⟩
    intro j hj
    simp [State.selection, Block.clearSet] at hj
  | false =>
    refine ⟨?_, ?_, ?_⟩
    · exact scanLoop_frame s (List.range 40) s.blk.clearSet
    · exact scanLoop_nsel_le s (List.range 40) s.blk.clearSet (by simp [Block.clearSet])
    · exact scanLoop_selected s (List.range 40) s.blk.clearSet (by simp [Block.clearSet])
        (by intro j hj; simp [Block.clearSet] at hj)

/-- Everything SCAN leaves: the two sets and the stall budget, the second set a copy of the first. -/
theorem opScan_blk (dma : Bool) (s : State) :
    ∃ pipe : Vector ObjEntry 10,
      (opScan dma s).blk =
        { s.blk with
          sel := (s.selection dma).sel
          nsel := (s.selection dma).nsel
          pipeSpr := pipe
          npipe := (s.selection dma).nsel
          stallBudget := 216#8 } ∧
      ∀ j : Fin 10, j.val < (s.selection dma).nsel.toNat → pipe[j] = (s.selection dma).sel[j] := by
  have hf := (selection_spec s dma).1
  refine ⟨Vector.ofFn (fun j : Fin 10 =>
    if j.val < (s.selection dma).nsel.toNat then (s.selection dma).sel[j] else (s.selection dma).pipeSpr[j]), ?_, ?_⟩
  · simp only [opScan, opLoadSprites_blk]
    rw [hf]
  · intro j hj
    simp [hj]

end Sys2Proof.Machine
end

