-- ==== Sys2Proof/Laws/Scheduler.lean ====
section
/-! SUPPORT. What each part of CLOCK leaves: the dot and the line, dots 80 and 81, the transfer dot, the whole command. -/

namespace Sys2Proof.Machine

open Host (Outcome)

/-! ### Lines 1 to 21 of R131 -/

theorem nextLineIndex_le {ly : Byte} (h : ly.toNat ≤ 153) : nextLineIndex ly ≤ 153 := by
  unfold nextLineIndex
  split <;> omega

theorem nextLineIndex_toNat {ly : Byte} (h : ly.toNat ≤ 153) :
    (BitVec.ofNat 8 (nextLineIndex ly)).toNat = nextLineIndex ly := by
  have := nextLineIndex_le h
  simp only [BitVec.toNat_ofNat]
  omega

/-- At a dot wrap the line ends and the next one starts. -/
theorem advanceDot_wrap {s : State} (h : s.rf.dot.toNat = 456) :
    s.advanceDot = s.wrapDot.nextLine.startLine (nextLineIndex s.rf.ly) := by
  simp [State.advanceDot, h]

/-- Away from a dot wrap only the dot counter moves. -/
theorem advanceDot_step {s : State} (h : s.rf.dot.toNat ≠ 456) :
    s.advanceDot = { s with rf.dot := BitVec.ofNat 9 (s.rf.dot.toNat + 1) } := by
  unfold State.advanceDot
  rw [if_neg (by omega)]

/-- Lines 1 to 21 write the position, the mode, the window counters, the cursor and the latches. -/
theorem advanceDot_frame (s : State) :
    s.advanceDot =
      { s with
        rf := { s.rf with ly := s.advanceDot.rf.ly, dot := s.advanceDot.rf.dot, mode := s.advanceDot.rf.mode }
        blk := { s.blk with
          wlc := s.advanceDot.blk.wlc
          wyLatch := s.advanceDot.blk.wyLatch
          cursor := s.advanceDot.blk.cursor
          frameReady := s.advanceDot.blk.frameReady
          vblankEntered := s.advanceDot.blk.vblankEntered } } := by
  by_cases h : s.rf.dot.toNat = 456
  · rw [advanceDot_wrap h]
    have e : ∀ a b : State, a.rf = b.rf → a.blk = b.blk → a.env = b.env → a.mem = b.mem → a.rdata = b.rdata →
        a.pixWire = b.pixWire → a.winWire = b.winWire → a.pending = b.pending → a.strobe = b.strobe →
        a.awaitReset = b.awaitReset → a.draws = b.draws → a.epoch = b.epoch → a = b := by
      intro a b h1 h2 h3 h4 h5 h6 h7 h8 h9 h10 h11 h12
      cases a; cases b; simp_all
    apply e <;> simp
  · rw [advanceDot_step h]

/-! ### Lines 22 to 27 -/

theorem visibleDot_rf (s : State) (dma : Bool) :
    (s.visibleDot dma).rf =
      { s.rf with mode := if s.rf.ly.toNat < 144 ∧ s.rf.dot.toNat = 81 then .xfer else s.rf.mode } := by
  unfold State.visibleDot State.atXferDot State.atScanDot
  split_ifs <;> simp_all

theorem visibleDot_blk (s : State) (dma : Bool) :
    (s.visibleDot dma).blk =
      if s.rf.ly.toNat < 144 ∧ s.rf.dot.toNat = 80 then { (opScan dma s).blk with px := 0#8 } else s.blk := by
  unfold State.visibleDot State.atXferDot State.atScanDot
  split_ifs <;> simp_all

/-- Lines 22 to 27 touch the Register File's mode and the block's state only. -/
theorem visibleDot_frame (s : State) (dma : Bool) :
    s.visibleDot dma = { s with rf := (s.visibleDot dma).rf, blk := (s.visibleDot dma).blk } := by
  unfold State.visibleDot State.atXferDot State.atScanDot
  split_ifs <;> rfl

/-! ### Lines 29 to 35 -/

/-- Everything the transfer dot can do: nothing, spend a stall, render a pixel, stop on a full buffer, or pass over a
triplet past it. -/
theorem transferDot_cases (s : State) :
    (s.rf.mode ≠ .xfer ∧ s.transferDot = .next s) ∨
    (s.rf.mode = .xfer ∧ 0 < s.blk.stallBudget.toNat ∧ s.transferDot = .next s.stall.endOfTransfer) ∨
    (s.rf.mode = .xfer ∧ (s.blk.stallBudget.toNat = 0 ∨ s.drawStall = false) ∧ s.blk.cursor.toNat < 23040 ∧
      s.transferDot = .next
        ((s.yielded.putTriplet (s.pixelRgb (s.pixelAt s.blk.px.toNat))).advanceCursor.countPixel.endOfTransfer)) ∨
    (s.rf.mode = .xfer ∧ s.blk.cursor.toNat = 23040 ∧ s.transferDot = .fault .cursorOverrun) ∨
    (s.rf.mode = .xfer ∧ (s.blk.stallBudget.toNat = 0 ∨ s.drawStall = false) ∧ 23040 < s.blk.cursor.toNat ∧
      s.transferDot = .next s.yielded.advanceCursor.countPixel.endOfTransfer) := by
  unfold State.transferDot
  by_cases hm : s.rf.mode = .xfer
  · rw [if_pos hm]
    right
    rcases opPipeClock_cases s with ⟨hb, -, h⟩ | ⟨hd, h⟩
    · left
      exact ⟨hm, hb, by rw [h]; rfl⟩
    · right
      rcases opRenderPixel_cases (s.pixelAt s.blk.px.toNat) s.yielded with ⟨hc, hr⟩ | ⟨hc, hr⟩ | ⟨hc, hr⟩
      · left
        exact ⟨hm, hd, hc, by rw [h]; simp only [renderYield, hr, andThen_next, yielded_pixelRgb]⟩
      · right; left
        exact ⟨hm, hc, by rw [h]; simp only [renderYield, hr, andThen]⟩
      · right; right
        exact ⟨hm, hd, hc, by rw [h]; simp only [renderYield, hr, andThen_next]⟩
  · left
    exact ⟨hm, if_neg hm⟩

/-- What the transfer dot leaves: it writes no more than the mode, the column count, `S.WIN_VIS`, the cursor, the budget,
the frame buffer and the number of the next free choice. Outside PixelTransfer it does nothing, a stall takes one from the
budget, and a pixel moves the frame buffer, the cursor and the column count together, the frame buffer only where the
triplet is inside it. -/
theorem transferDot_frame {s t : State} (h : s.transferDot = .next t) :
    t = { s with
      rf.mode := t.rf.mode
      blk.px := t.blk.px
      blk.winVis := t.blk.winVis
      blk.cursor := t.blk.cursor
      blk.stallBudget := t.blk.stallBudget
      mem.fb := t.mem.fb
      draws := t.draws } ∧
    ((t.mem.fb = s.mem.fb ∧ t.blk.cursor = s.blk.cursor ∧ t.blk.px = s.blk.px ∧ t.blk.winVis = s.blk.winVis ∧
      (s.rf.mode ≠ .xfer ∧ t = s ∨ s.rf.mode = .xfer ∧ t.blk.stallBudget.toNat + 1 = s.blk.stallBudget.toNat)) ∨
     (s.rf.mode = .xfer ∧ t.blk.cursor = s.blk.cursor + 1#15 ∧ t.blk.px = s.blk.px + 1#8 ∧
      t.blk.stallBudget = s.blk.stallBudget ∧
      (s.blk.cursor.toNat < 23040 ∧ t.mem = (s.putTriplet (s.pixelRgb (s.pixelAt s.blk.px.toNat))).mem ∨
       23040 < s.blk.cursor.toNat ∧ t.mem = s.mem))) := by
  rcases transferDot_cases s with ⟨h1, h2⟩ | ⟨h1, hb, h2⟩ | ⟨h1, _, hcl, h2⟩ | ⟨_, _, h2⟩ | ⟨h1, _, hcl, h2⟩ <;>
    rw [h2] at h <;> cases h
  · exact ⟨rfl, .inl ⟨rfl, rfl, rfl, rfl, .inl ⟨h1, rfl⟩⟩⟩
  · refine ⟨?_, .inl ⟨by simp, by simp, by simp, by simp, .inr ⟨h1, ?_⟩⟩⟩
    · unfold State.endOfTransfer
      split <;> rfl
    · simp only [State.endOfTransfer_blk, State.stall_blk, BitVec.toNat_sub, BitVec.toNat_ofNat]
      omega
  · refine ⟨?_, .inr ⟨h1, by simp, by simp, by simp, .inl ⟨hcl, by simp; rfl⟩⟩⟩
    unfold State.endOfTransfer
    split <;> rfl
  · refine ⟨?_, .inr ⟨h1, by simp, by simp, by simp, .inr ⟨hcl, by simp⟩⟩⟩
    unfold State.endOfTransfer
    split <;> rfl

/-- The transfer dot stops only with a full buffer. -/
theorem transferDot_completes_of_cursor {s : State} (h : s.blk.cursor.toNat ≠ 23040) : ∃ t, s.transferDot = .next t := by
  rcases transferDot_cases s with h2 | h2 | h2 | h2 | h2
  · exact ⟨_, h2.2⟩
  · exact ⟨_, h2.2.2⟩
  · exact ⟨_, h2.2.2.2⟩
  · exact absurd h2.2.1 h
  · exact ⟨_, h2.2.2.2⟩

/-! ### Lines 1 to 28, by where the line stands -/

theorem nextLineIndex_eq_zero (ly : Byte) : nextLineIndex ly = 0 ↔ ly.toNat + 1 = 154 := by
  unfold nextLineIndex
  by_cases h : ly.toNat + 1 = 154
  · rw [if_pos h]
    exact ⟨fun _ => h, fun _ => rfl⟩
  · rw [if_neg h]
    exact ⟨fun h2 => absurd h2 (by omega), fun h2 => absurd h2 h⟩

/-- The position after lines 1 to 21. -/
theorem advanceDot_position (s : State) :
    (s.rf.dot.toNat = 456 → s.advanceDot.rf.dot = 1#9 ∧ s.advanceDot.rf.ly = BitVec.ofNat 8 (nextLineIndex s.rf.ly)) ∧
    (s.rf.dot.toNat ≠ 456 →
      s.advanceDot.rf.dot = BitVec.ofNat 9 (s.rf.dot.toNat + 1) ∧ s.advanceDot.rf.ly = s.rf.ly) := by
  constructor
  · intro h
    rw [advanceDot_wrap h]
    simp
  · intro h
    rw [advanceDot_step h]
    simp

/-- The mode after lines 1 to 21. -/
theorem advanceDot_mode (s : State) :
    s.advanceDot.rf.mode =
      if s.rf.dot.toNat = 456 then (if nextLineIndex s.rf.ly < 144 then .objScan else .vblank) else s.rf.mode := by
  by_cases h : s.rf.dot.toNat = 456
  · rw [if_pos h, advanceDot_wrap h]
    simp
  · rw [if_neg h, advanceDot_step h]

/-- The block's state after a dot wrap. -/
theorem advanceDot_wrap_blk {s : State} (h : s.rf.dot.toNat = 456) :
    s.advanceDot.blk =
      { s.blk with
        wlc := if nextLineIndex s.rf.ly = 0 then 0#8 else if s.blk.winVis then s.blk.wlc + 1#8 else s.blk.wlc
        wyLatch :=
          if nextLineIndex s.rf.ly < 144 ∧ nextLineIndex s.rf.ly = s.rf.wy.toNat then true
          else if nextLineIndex s.rf.ly = 0 then false
          else s.blk.wyLatch
        cursor := if nextLineIndex s.rf.ly = 144 then 0#15 else s.blk.cursor
        frameReady := if nextLineIndex s.rf.ly = 144 then true else s.blk.frameReady
        vblankEntered := if nextLineIndex s.rf.ly = 144 then true else s.blk.vblankEntered } := by
  rw [advanceDot_wrap h]
  have hz : nextLineIndex s.rf.ly = 0 ↔ s.rf.ly.toNat + 1 = 154 := nextLineIndex_eq_zero s.rf.ly
  have hw : s.wrapDot.nextLine.blk =
      { s.blk with
        wlc := if nextLineIndex s.rf.ly = 0 then 0#8 else if s.blk.winVis then s.blk.wlc + 1#8 else s.blk.wlc
        wyLatch := if nextLineIndex s.rf.ly = 0 then false else s.blk.wyLatch } := by
    unfold State.nextLine State.wrapDot opWindowVisible
    by_cases h1 : s.rf.ly.toNat + 1 = 154
    · rw [if_pos (hz.2 h1), if_pos (hz.2 h1)]
      by_cases h2 : s.blk.winVis = true
      · rw [if_pos h2, if_pos h1]
      · rw [if_neg h2, if_pos h1]
    · rw [if_neg (mt hz.1 h1), if_neg (mt hz.1 h1)]
      by_cases h2 : s.blk.winVis = true
      · rw [if_pos h2, if_pos h2, if_neg h1]
      · rw [if_neg h2, if_neg h2, if_neg h1]
  have hy : s.wrapDot.nextLine.rf.wy = s.rf.wy := by simp
  generalize s.wrapDot.nextLine = u at *
  unfold State.startLine
  by_cases h3 : nextLineIndex s.rf.ly < 144
  · have h4 : nextLineIndex s.rf.ly ≠ 144 := by omega
    rw [if_pos h3, if_neg h4, if_neg h4, if_neg h4]
    simp only [State.latchWindowY_blk, State.setMode_blk, State.setMode_rf, hw, hy, h3, true_and]
    by_cases h5 : nextLineIndex s.rf.ly = s.rf.wy.toNat
    · rw [if_pos h5]
      simp [h5]
    · rw [if_neg h5]
      simp [h5]
  · have h6 : ¬(nextLineIndex s.rf.ly < 144 ∧ nextLineIndex s.rf.ly = s.rf.wy.toNat) := fun hh => h3 hh.1
    rw [if_neg h3, if_neg h6]
    by_cases h4 : nextLineIndex s.rf.ly = 144
    · rw [if_pos h4, if_pos h4, if_pos h4, if_pos h4]
      simp [State.enterVBlank, hw]
    · rw [if_neg h4, if_neg h4, if_neg h4, if_neg h4]
      simp [hw]

/-- SCAN neither reads nor writes the dot counter. -/
theorem opScan_setDot (s : State) (dma : Bool) (d : BitVec 9) :
    opScan dma { s with rf.dot := d } = { opScan dma s with rf.dot := d } := by
  have h1 : ∀ todo b, scanLoop { s with rf.dot := d } b todo = scanLoop s b todo := by
    intro todo b
    exact scanLoop_congr (s := s) (t := { s with rf.dot := d }) (fun _ => rfl) todo (fun _ _ => rfl) b
  have h2 : State.selection { s with rf.dot := d } dma = s.selection dma := by
    simp only [State.selection, h1]
  simp only [opScan, h2, opLoadSprites]

/-- The state before the transfer dot: at a dot wrap, at the scan of a visible line, at any other dot. -/
theorem beforeTransfer_cases (s : State) (dma : Bool) :
    (s.rf.dot.toNat = 456 ∧ s.beforeTransfer dma = s.advanceDot.recomputeCoin) ∨
    (s.rf.dot.toNat = 79 ∧ s.rf.ly.toNat < 144 ∧
      s.beforeTransfer dma = { opScan dma s with rf.dot := 80#9, blk.px := 0#8 }.recomputeCoin) ∨
    (s.rf.dot.toNat ≠ 456 ∧ ¬(s.rf.dot.toNat = 79 ∧ s.rf.ly.toNat < 144) ∧
      s.beforeTransfer dma =
        { s with
          rf.dot := BitVec.ofNat 9 (s.rf.dot.toNat + 1)
          rf.mode := if s.rf.dot.toNat = 80 ∧ s.rf.ly.toNat < 144 then .xfer else s.rf.mode }.recomputeCoin) := by
  by_cases h : s.rf.dot.toNat = 456
  · left
    refine ⟨h, ?_⟩
    have h1 := (advanceDot_position s).1 h
    have h2 : s.advanceDot.visibleDot dma = s.advanceDot := by
      unfold State.visibleDot State.atXferDot State.atScanDot
      rw [h1.1]
      simp [h1.1]
    simp only [State.beforeTransfer, h2]
  · right
    have hlt := s.rf.dot.isLt
    have hs := advanceDot_step h
    have hly : s.advanceDot.rf.ly = s.rf.ly := by rw [hs]
    have hdot : s.advanceDot.rf.dot = BitVec.ofNat 9 (s.rf.dot.toNat + 1) := by rw [hs]
    unfold State.beforeTransfer State.visibleDot
    rw [hly]
    by_cases hv : s.rf.ly.toNat < 144
    · rw [if_pos hv]
      by_cases h7 : s.rf.dot.toNat = 79
      · left
        refine ⟨h7, hv, ?_⟩
        have h1 : s.advanceDot.atScanDot dma = { opScan dma s with rf.dot := 80#9, blk.px := 0#8 } := by
          unfold State.atScanDot
          rw [hdot, h7, if_pos (by decide), hs, h7, opScan_setDot]
        rw [h1, State.atXferDot, if_neg (show ¬((80#9).toNat = 81) by decide)]
      · right
        refine ⟨h, fun hh => h7 hh.1, ?_⟩
        have h1 : s.advanceDot.atScanDot dma = s.advanceDot := by
          unfold State.atScanDot
          rw [hdot]
          refine if_neg ?_
          rw [BitVec.toNat_ofNat]
          omega
        rw [h1, State.atXferDot, hdot, BitVec.toNat_ofNat]
        by_cases h8 : s.rf.dot.toNat = 80
        · rw [if_pos (by omega), if_pos ⟨h8, hv⟩, hs]
          rfl
        · rw [if_neg (by omega), if_neg (fun hh => h8 hh.1), hs]
    · right
      refine ⟨h, fun hh => hv hh.2, ?_⟩
      rw [if_neg hv, if_neg (fun hh => hv hh.2), hs]

/-- Lines 1 to 28 touch the Register File and the block's state only. -/
theorem beforeTransfer_frame (s : State) (dma : Bool) :
    s.beforeTransfer dma = { s with rf := (s.beforeTransfer dma).rf, blk := (s.beforeTransfer dma).blk } := by
  have h1 : s.beforeTransfer dma =
      { s.advanceDot with rf := (s.beforeTransfer dma).rf, blk := (s.beforeTransfer dma).blk } := by
    unfold State.beforeTransfer
    rw [visibleDot_frame]
    rfl
  have h2 := advanceDot_frame s
  generalize s.advanceDot = a at *
  rw [h1, h2]

/-- A CLOCK that reaches PixelTransfer starts no line, and finds the cursor where it was. -/
theorem beforeTransfer_xfer {s : State} {dma : Bool} (hm : (s.beforeTransfer dma).rf.mode = .xfer) :
    s.rf.dot.toNat ≠ 456 ∧ (s.beforeTransfer dma).blk.cursor = s.blk.cursor := by
  rcases beforeTransfer_cases s dma with hb | hb | hb
  · rw [hb.2, State.recomputeCoin_rf, advanceDot_mode, if_pos hb.1] at hm
    split_ifs at hm
  · obtain ⟨pipe, hs, -⟩ := opScan_blk dma s
    refine ⟨by omega, ?_⟩
    rw [hb.2.2]
    show (opScan dma s).blk.cursor = _
    rw [hs]
  · exact ⟨hb.1, by rw [hb.2.2, State.recomputeCoin_blk]⟩

/-! ### The whole command -/

/-- CLOCK is its part before the transfer dot, then the transfer dot, with `rdata` 0. -/
theorem execClock_eq_next {s t : State} {dma : Bool} :
    exec (.clock dma) s = .next t ↔
      s.awaitReset = false ∧ ∃ u, (s.beforeTransfer dma).transferDot = .next u ∧ t = u.answer false := by
  simp only [exec, execClock, afterReset_eq_next, andThen_eq_next, Host.Outcome.next.injEq]
  constructor
  · rintro ⟨h, u, hu, rfl⟩
    exact ⟨h, u, hu, rfl⟩
  · rintro ⟨h, u, hu, rfl⟩
    exact ⟨h, u, hu, rfl⟩

/-- CLOCK completes where its transfer dot does. -/
theorem execClock_of_transferDot {s u : State} {dma : Bool} (h : s.awaitReset = false)
    (hu : (s.beforeTransfer dma).transferDot = .next u) : exec (.clock dma) s = .next (u.answer false) :=
  execClock_eq_next.2 ⟨h, u, hu, rfl⟩

/-- A CLOCK at a dot wrap strobes nothing. -/
theorem execClock_wrap {s t : State} {dma : Bool} (h : s.rf.dot.toNat = 456) (ht : exec (.clock dma) s = .next t) :
    t = s.advanceDot.recomputeCoin.answer false := by
  obtain ⟨-, u, hu, rfl⟩ := execClock_eq_next.1 ht
  have hb : s.beforeTransfer dma = s.advanceDot.recomputeCoin := by
    rcases beforeTransfer_cases s dma with hb | hb | hb
    · exact hb.2
    · omega
    · exact absurd h hb.1
  have hm : s.advanceDot.recomputeCoin.rf.mode ≠ .xfer := by
    simp only [State.recomputeCoin_rf, advanceDot_mode, if_pos h]
    split_ifs <;> simp
  rw [hb, State.transferDot, if_neg hm] at hu
  cases hu
  rfl

/-- The Register File after CLOCK, its mode apart. -/
theorem execClock_rf {s t : State} {dma : Bool} (ht : exec (.clock dma) s = .next t) :
    t.rf =
      { s.rf with
        dot := s.advanceDot.rf.dot
        ly := s.advanceDot.rf.ly
        coin := decide (s.advanceDot.rf.ly = s.rf.lyc)
        mode := t.rf.mode } := by
  obtain ⟨-, u, hu, rfl⟩ := execClock_eq_next.1 ht
  have h1 : u.rf = { (s.beforeTransfer dma).rf with mode := u.rf.mode } := by
    rw [(transferDot_frame hu).1]
  have h2 : (s.beforeTransfer dma).rf =
      { s.rf with
        dot := s.advanceDot.rf.dot
        ly := s.advanceDot.rf.ly
        coin := decide (s.advanceDot.rf.ly = s.rf.lyc)
        mode := (s.beforeTransfer dma).rf.mode } := by
    simp only [State.beforeTransfer, State.recomputeCoin_rf, visibleDot_rf]
    rw [advanceDot_frame]
  simp only [State.answer_rf]
  rw [h1, h2]

end Sys2Proof.Machine
end

