-- ==== Sys2Proof/Laws/Legal.lean ====
section
/-! SUPPORT. The legal states of Safety.lean along the parts of CLOCK: what holds between lines 28 and 29 of R131, and
that the transfer dot leads from there to a legal state. -/

namespace Sys2Proof.Machine

open Host (Outcome)

/-- The four rows of R140. -/
theorem modeOf_cases (l d px : Nat) :
   (144 ≤ l ∧ modeOf l d px = .vblank) ∨ (l < 144 ∧ d ≤ 80 ∧ modeOf l d px = .objScan) ∨
   (l < 144 ∧ 80 < d ∧ px < 160 ∧ modeOf l d px = .xfer) ∨ (l < 144 ∧ 80 < d ∧ 160 ≤ px ∧ modeOf l d px = .hblank) := by
  unfold modeOf
  split_ifs <;> simp <;> omega

/-- What holds between lines 28 and 29 of R131: a legal state whose transfer dot is still to come. -/
structure State.ReadyToStrobe (s : State) : Prop where
  position   : s.PositionLegal
  px_le      : s.blk.px.toNat ≤ 160
  nsel_le    : s.blk.nsel.toNat ≤ 10
  npipe_eq   : s.blk.npipe = s.blk.nsel
  pipe_eq    : ∀ j : Fin 10, j.val < s.blk.nsel.toNat → s.blk.pipeSpr[j] = s.blk.sel[j]
  mode_eq    : s.rf.mode = modeOf s.rf.ly.toNat s.rf.dot.toNat s.blk.px.toNat
  wlc_le     : s.blk.wlc.toNat ≤ s.rf.ly.toNat
  budget_le  : s.blk.stallBudget.toNat ≤ 216
  strobes    : s.rf.ly.toNat < 144 → 81 ≤ s.rf.dot.toNat →
    s.rf.dot.toNat + s.blk.stallBudget.toNat = s.blk.px.toNat + 297 ∨
    (s.blk.px.toNat = 160 ∧ 457 ≤ s.rf.dot.toNat + s.blk.stallBudget.toNat)
  strobes80 : s.rf.ly.toNat < 144 → s.rf.dot.toNat = 80 → s.blk.px.toNat = 0 ∧ s.blk.stallBudget.toNat = 216
  cursor_eq  : s.blk.cursor.toNat = cursorAt s.rf.ly.toNat s.rf.dot.toNat s.blk.px.toNat
  rows       : s.rf.ly.toNat < 144 → 80 ≤ s.rf.dot.toNat → ∀ j : Fin 10, j.val < s.blk.nsel.toNat →
    s.blk.sel[j].y.toNat ≤ s.rf.ly.toNat + 16 ∧ s.rf.ly.toNat + 16 < s.blk.sel[j].y.toNat + 16

/-- A qualifying entry shows a row 0 to 15 (R174). -/
theorem qualifies_row {rf : RegFile} {e : ObjEntry} (h : qualifies rf e = true) :
   e.y.toNat ≤ rf.ly.toNat + 16 ∧ rf.ly.toNat + 16 < e.y.toNat + 16 := by
  simp only [qualifies, Bool.and_eq_true, decide_eq_true_eq] at h
  have : rf.spriteHeight ≤ 16 := by unfold RegFile.spriteHeight; split <;> omega
  omega

/-- Lines 1 to 28 lead from a legal state to one ready for its transfer dot. -/
theorem beforeTransfer_ready {s : State} (h : s.Legal) (dma : Bool) : (s.beforeTransfer dma).ReadyToStrobe := by
  obtain ⟨⟨hly, hd1, hd2⟩, hpx, hns, hnp, hpe, hm, hwl, hb, hst, hcu, hro⟩ := h
  by_cases hw : s.rf.dot.toNat = 456
  · -- wrap
    have hn := nextLineIndex_toNat hly
    have hnl := nextLineIndex_le hly
    have hrf : (s.beforeTransfer dma).rf = { s.rf with
        dot := 1#9, ly := BitVec.ofNat 8 (nextLineIndex s.rf.ly),
        mode := if nextLineIndex s.rf.ly < 144 then .objScan else .vblank,
        coin := decide (BitVec.ofNat 8 (nextLineIndex s.rf.ly) = s.rf.lyc) } := by
      simp [State.beforeTransfer, visibleDot_rf, advanceDot_wrap hw]
    have hbk : (s.beforeTransfer dma).blk = s.advanceDot.blk := by
      simp [State.beforeTransfer, visibleDot_blk, advanceDot_wrap hw]
    rw [advanceDot_wrap hw] at hbk
    simp at hbk
    have hcu' : s.blk.cursor.toNat = cursorAt (nextLineIndex s.rf.ly) 1 0 ∨ nextLineIndex s.rf.ly = 144 := by
      rw [hcu]; unfold cursorAt nextLineIndex
      split_ifs <;> omega
    constructor
    · constructor <;> rw [hrf] <;> simp only [hn, BitVec.toNat_ofNat] <;> omega
    · rw [hbk]; exact hpx
    · rw [hbk]; exact hns
    · rw [hbk]; exact hnp
    · rw [hbk]; exact hpe
    · rw [hrf, hbk]; simp only [hn, BitVec.toNat_ofNat]
      rcases modeOf_cases (nextLineIndex s.rf.ly) (1 % 2^9) s.blk.px.toNat with h|h|h|h
      · rw [h.2, if_neg (by omega)]
      · rw [h.2.2, if_pos (by omega)]
      · omega
      · omega
    · rw [hrf, hbk]; simp only [hn]
      unfold nextLineIndex
      split_ifs <;> (try simp) <;> omega
    · rw [hbk]; exact hb
    · rw [hrf, hbk]; simp
    · rw [hrf, hbk]; simp
    · rw [hrf, hbk]; simp only [hn]
      unfold cursorAt at hcu' ⊢
      simp only [BitVec.toNat_ofNat]
      split_ifs at hcu' ⊢ <;> first | omega | rfl
    · rw [hrf, hbk]; simp
  · have hdn : (BitVec.ofNat 9 (s.rf.dot.toNat + 1)).toNat = s.rf.dot.toNat + 1 := by
      simp only [BitVec.toNat_ofNat]; omega
    have hrf : (s.beforeTransfer dma).rf = { s.rf with
        dot := BitVec.ofNat 9 (s.rf.dot.toNat + 1),
        mode := if s.rf.ly.toNat < 144 ∧ s.rf.dot.toNat + 1 = 81 then .xfer else s.rf.mode,
        coin := decide (s.rf.ly = s.rf.lyc) } := by
      simp [State.beforeTransfer, visibleDot_rf, advanceDot_step hw, hdn]
    by_cases h80 : s.rf.ly.toNat < 144 ∧ s.rf.dot.toNat + 1 = 80
    · obtain ⟨pipe, hsb, hpipe⟩ := opScan_blk dma { s with rf.dot := BitVec.ofNat 9 (s.rf.dot.toNat + 1) }
      obtain ⟨-, hsn, hsq⟩ := selection_spec { s with rf.dot := BitVec.ofNat 9 (s.rf.dot.toNat + 1) } dma
      have hbk : (s.beforeTransfer dma).blk = { (opScan dma { s with rf.dot := BitVec.ofNat 9 (s.rf.dot.toNat + 1) }).blk with px := 0#8 } := by
        simp only [State.beforeTransfer, State.recomputeCoin_blk, visibleDot_blk, advanceDot_step hw, hdn]
        rw [if_pos h80]
      rw [hsb] at hbk
      constructor
      · constructor <;> rw [hrf] <;> simp only [hdn] <;> omega
      · rw [hbk]; simp
      · rw [hbk]; exact hsn
      · rw [hbk]
      · rw [hbk]; exact hpipe
      · rw [hrf, hbk]; simp only [hdn]; rw [if_neg (by omega), hm]
        unfold modeOf; split_ifs <;> first | rfl | omega
      · rw [hrf, hbk]; exact hwl
      · rw [hbk]; simp
      · rw [hrf, hbk]; simp only [hdn]; omega
      · rw [hrf, hbk]; simp
      · rw [hrf, hbk]; simp only [hdn]
        have := hcu
        unfold cursorAt at this ⊢
        split_ifs at this ⊢ <;> (try simp) <;> omega
      · rw [hrf, hbk]; intro _ _ j hj
        exact qualifies_row (hsq j hj)
    · have hbk : (s.beforeTransfer dma).blk = s.blk := by
        simp only [State.beforeTransfer, State.recomputeCoin_blk, visibleDot_blk, advanceDot_step hw, hdn]
        rw [if_neg h80]
      constructor
      · constructor <;> rw [hrf] <;> simp only [hdn] <;> omega
      · rw [hbk]; exact hpx
      · rw [hbk]; exact hns
      · rw [hbk]; exact hnp
      · rw [hbk]; exact hpe
      · rw [hrf, hbk]; simp only [hdn, hm]
        unfold modeOf; split_ifs <;> first | rfl | omega
      · rw [hrf, hbk]; exact hwl
      · rw [hbk]; exact hb
      · rw [hrf, hbk]; simp only [hdn]; intro a b
        have := hst a (by omega)
        omega
      · rw [hrf, hbk]; simp only [hdn]; omega
      · rw [hrf, hbk]; simp only [hdn]
        have := hcu
        unfold cursorAt at this ⊢
        split_ifs at this ⊢ <;> omega
      · rw [hrf, hbk]; simp only [hdn]; intro a b
        exact hro a (by omega)

/-- Outside PixelTransfer a state ready for its transfer dot is legal as it stands. -/
theorem State.ReadyToStrobe.legal {s : State} (h : s.ReadyToStrobe) (hm' : s.rf.mode ≠ .xfer) : s.Legal := by
  obtain ⟨⟨hly, hd1, hd2⟩, hpx, hns, hnp, hpe, hm, hwl, hb, hst, hst80, hcu, hro⟩ := h
  refine ⟨⟨hly, hd1, hd2⟩, hpx, hns, hnp, hpe, hm, hwl, hb, ?_, hcu, hro⟩
  intro a b
  by_cases h8 : s.rf.dot.toNat = 80
  · have := hst80 a h8; omega
  · have := hst a (by omega)
    rcases modeOf_cases s.rf.ly.toNat s.rf.dot.toNat s.blk.px.toNat with h|h|h|h
    · omega
    · omega
    · rw [h.2.2.2] at hm; exact absurd hm hm'
    · omega

/-- A state ready for its transfer dot has room in the frame buffer if it is in PixelTransfer (R236). -/
theorem State.ReadyToStrobe.cursor_lt {s : State} (h : s.ReadyToStrobe) (hm : s.rf.mode = .xfer) :
    s.blk.px.toNat < 160 ∧ s.blk.cursor.toNat < 23040 := by
  have hmo := h.mode_eq
  have hcu := h.cursor_eq
  rw [hm] at hmo
  rcases modeOf_cases s.rf.ly.toNat s.rf.dot.toNat s.blk.px.toNat with hc | hc | hc | hc
  · rw [hc.2] at hmo; cases hmo
  · rw [hc.2.2] at hmo; cases hmo
  · unfold cursorAt at hcu
    rw [if_neg (by omega), if_neg (by omega)] at hcu
    omega
  · rw [hc.2.2.2] at hmo; cases hmo

/-- The transfer dot leads to a legal state. -/
theorem transferDot_legal {s t : State} (h : s.ReadyToStrobe) (ht : s.transferDot = .next t) : t.Legal := by
  rcases transferDot_cases s with ⟨h1, h2⟩ | ⟨h1, hb0, h2⟩ | ⟨h1, hdr, hcl, h2⟩ | ⟨h1, _, h2⟩ | ⟨h1, _, hcl, h2⟩
  · rw [h2] at ht; cases ht; exact h.legal h1
  · rw [h2] at ht; cases ht
    obtain ⟨⟨hly, hd1, hd2⟩, hpx, hns, hnp, hpe, hm, hwl, hb, hst, hst80, hcu, hro⟩ := h
    have hs1 : (s.blk.stallBudget - 1#8).toNat = s.blk.stallBudget.toNat - 1 := by
      simp only [BitVec.toNat_sub, BitVec.toNat_ofNat]; omega
    have hmx : s.rf.ly.toNat < 144 ∧ 80 < s.rf.dot.toNat ∧ s.blk.px.toNat < 160 := by
      rcases modeOf_cases s.rf.ly.toNat s.rf.dot.toNat s.blk.px.toNat with h|h|h|h <;> simp_all
    have hrf : s.stall.endOfTransfer.rf = s.rf := by
      have : ¬ s.blk.px.toNat = 160 := by omega
      simp [this]
    have hbk : s.stall.endOfTransfer.blk = { s.blk with stallBudget := s.blk.stallBudget - 1#8 } := by simp
    constructor
    · constructor <;> rw [hrf] <;> assumption
    · rw [hbk]; exact hpx
    · rw [hbk]; exact hns
    · rw [hbk]; exact hnp
    · rw [hbk]; exact hpe
    · rw [hrf, hbk]; exact hm
    · rw [hrf, hbk]; exact hwl
    · rw [hbk]; simp only [hs1]; omega
    · rw [hrf, hbk]; simp only [hs1]; intro a b; have := hst a (by omega); omega
    · rw [hrf, hbk]; exact hcu
    · rw [hrf, hbk]; exact hro
  · rw [h2] at ht; cases ht
    obtain ⟨⟨hly, hd1, hd2⟩, hpx, hns, hnp, hpe, hm, hwl, hb, hst, hst80, hcu, hro⟩ := h
    have hmx : s.rf.ly.toNat < 144 ∧ 80 < s.rf.dot.toNat ∧ s.blk.px.toNat < 160 := by
      rcases modeOf_cases s.rf.ly.toNat s.rf.dot.toNat s.blk.px.toNat with h|h|h|h <;> simp_all
    have hp1 : (s.blk.px + 1#8).toNat = s.blk.px.toNat + 1 := by
      simp only [BitVec.toNat_add, BitVec.toNat_ofNat]; omega
    have hc1 : (s.blk.cursor + 1#15).toNat = s.blk.cursor.toNat + 1 := by
      simp only [BitVec.toNat_add, BitVec.toNat_ofNat]; omega
    generalize s.pixelRgb (s.pixelAt s.blk.px.toNat) = c
    have hrf : (s.yielded.putTriplet c).advanceCursor.countPixel.endOfTransfer.rf = { s.rf with mode := if (s.blk.px + 1#8).toNat = 160 then .hblank else s.rf.mode } := by
      rw [State.endOfTransfer_rf]; rfl
    have hbk : (s.yielded.putTriplet c).advanceCursor.countPixel.endOfTransfer.blk = { s.blk with winVis := s.winActive s.blk.px.toNat, cursor := s.blk.cursor + 1#15, px := s.blk.px + 1#8 } := by simp
    constructor
    · constructor <;> rw [hrf] <;> assumption
    · rw [hbk]; simp only [hp1]; omega
    · rw [hbk]; exact hns
    · rw [hbk]; exact hnp
    · rw [hbk]; exact hpe
    · rw [hrf, hbk]; simp only [hp1, hm]; unfold modeOf; split_ifs <;> first | rfl | omega
    · rw [hrf, hbk]; exact hwl
    · rw [hbk]; exact hb
    · rw [hrf, hbk]; simp only [hp1]; intro a b; have := hst a (by omega); omega
    · rw [hrf, hbk]; simp only [hp1, hc1]
      unfold cursorAt at hcu ⊢
      split_ifs at hcu ⊢ <;> omega
    · rw [hrf, hbk]; exact hro
  · rw [h2] at ht; cases ht
  · have := (h.cursor_lt h1).2
    omega

/-- The transfer dot completes. -/
theorem transferDot_completes {s : State} (h : s.ReadyToStrobe) : ∃ t, s.transferDot = .next t := by
  by_cases hm : s.rf.mode = .xfer
  · have := (h.cursor_lt hm).2
    exact transferDot_completes_of_cursor (by omega)
  · exact ⟨s, if_neg hm⟩

/-- Legality reads eleven elements: it is the same in two states that agree on them. -/
theorem State.Legal.congr {s t : State} (h : s.Legal) (hly : t.rf.ly = s.rf.ly) (hdot : t.rf.dot = s.rf.dot)
    (hmode : t.rf.mode = s.rf.mode) (hpx : t.blk.px = s.blk.px) (hwlc : t.blk.wlc = s.blk.wlc)
    (hcur : t.blk.cursor = s.blk.cursor) (hsel : t.blk.sel = s.blk.sel) (hnsel : t.blk.nsel = s.blk.nsel)
    (hpipe : t.blk.pipeSpr = s.blk.pipeSpr) (hnpipe : t.blk.npipe = s.blk.npipe)
    (hbud : t.blk.stallBudget = s.blk.stallBudget) : t.Legal where
  position := ⟨by rw [hly]; exact h.position.ly_le, by rw [hdot]; exact h.position.dot_pos,
    by rw [hdot]; exact h.position.dot_le⟩
  px_le := by rw [hpx]; exact h.px_le
  nsel_le := by rw [hnsel]; exact h.nsel_le
  npipe_eq := by rw [hnpipe, hnsel]; exact h.npipe_eq
  pipe_eq := by rw [hnsel, hpipe, hsel]; exact h.pipe_eq
  mode_eq := by rw [hmode, hly, hdot, hpx]; exact h.mode_eq
  wlc_le := by rw [hwlc, hly]; exact h.wlc_le
  budget_le := by rw [hbud]; exact h.budget_le
  strobes := by rw [hly, hdot, hbud, hpx]; exact h.strobes
  cursor_eq := by rw [hcur, hly, hdot, hpx]; exact h.cursor_eq
  rows := by rw [hly, hdot, hnsel, hsel]; exact h.rows

end Sys2Proof.Machine
end

