-- ==== Sys2Proof/Laws/PerInstr.lean ====
section
/-! SUPPORT. Families of one lemma per constructor of Instr. -/

namespace Sys2Proof.Laws.WordShape

/-- The word of an operation carries its opcode in bits 3:0, and 0 in every bit its format does not name (R102, R104):
bits 31:4 in format N, 31:5 in format F, 31:10 in format X, none in format P. -/
def Statement (i : Instr) : Prop :=
  (encode i).extractLsb' 0 4 = i.opcode ∧
  match i with
  | .clock _ => (encode i).extractLsb' 5 27 = 0#27
  | .reset => (encode i).extractLsb' 4 28 = 0#28
  | .rdFrameReady => (encode i).extractLsb' 4 28 = 0#28
  | .rdVBlank => (encode i).extractLsb' 4 28 = 0#28
  | .setPalette _ _ _ _ => True
  | .setMonoPref _ => (encode i).extractLsb' 5 27 = 0#27
  | .scan _ => (encode i).extractLsb' 5 27 = 0#27
  | .loadSprites => (encode i).extractLsb' 4 28 = 0#28
  | .pipeClock => (encode i).extractLsb' 4 28 = 0#28
  | .windowVisible => (encode i).extractLsb' 4 28 = 0#28
  | .renderPixel _ _ _ _ => (encode i).extractLsb' 10 22 = 0#22

theorem clock (dma : Bool) : Statement (.clock dma) := by
  cases dma <;> exact ⟨by decide, by decide⟩

theorem reset : Statement .reset := ⟨by decide, by decide⟩

theorem rdFrameReady : Statement .rdFrameReady := ⟨by decide, by decide⟩

theorem rdVBlank : Statement .rdVBlank := ⟨by decide, by decide⟩

theorem setPalette (idx4 : BitVec 4) (r g b : Byte) : Statement (.setPalette idx4 r g b) := by
  refine ⟨?_, trivial⟩
  simp only [encode, wordP, Instr.opcode]
  ext i hi
  simp
  grind

theorem setMonoPref (pref : Bool) : Statement (.setMonoPref pref) := by
  cases pref <;> exact ⟨by decide, by decide⟩

theorem scan (dma : Bool) : Statement (.scan dma) := by
  cases dma <;> exact ⟨by decide, by decide⟩

theorem loadSprites : Statement .loadSprites := ⟨by decide, by decide⟩

theorem pipeClock : Statement .pipeClock := ⟨by decide, by decide⟩

theorem windowVisible : Statement .windowVisible := ⟨by decide, by decide⟩

theorem renderPixel (idx : BitVec 2) (src : Src) (pal prio : Bool) : Statement (.renderPixel idx src pal prio) := by
  revert idx
  cases src <;> cases pal <;> cases prio <;> exact fun idx => ⟨by revert idx; decide, by revert idx; decide⟩

end Sys2Proof.Laws.WordShape
end

