-- ==== Sys2Proof/Tests/Slice0.lean ====
section
/-! SUPPORT. The model's own tests. Expected values come from the spec: the encodings of spec/30_encoding.md and vectors
V-E of spec/95_test_vectors.md, the worked examples R147, R177, R214, R237 and vectors V-S, V-N, V-P, V-R. The last part
shows, for every obligation with hypotheses, a state and operands that meet them. -/

namespace Sys2Proof.Tests

open Sys2Proof.Machine
open Host (Outcome)

/-! ### Helpers -/

/-- The outcome is a next state with the property. -/
def nextIs (o : Outcome State Fault Refusal) (p : State → Bool) : Bool :=
  match o with
  | .next t => p t
  | .fault _ => false
  | .refused _ => false

/-- A small state: reset, at a position, with a mode, a column count, a cursor and a stall budget. -/
def small (ly : Byte) (dot : BitVec 9) (mode : Mode) (px : Byte) (cursor : BitVec 15) (budget : Byte) : State :=
  { State.reset with
    rf.ly := ly, rf.dot := dot, rf.mode := mode
    blk.px := px, blk.cursor := cursor, blk.stallBudget := budget }

/-- `small` with a word on the command port. -/
def withWord (s : State) (w : Word) : State := { s with pending := [.cmd w] }

/-- A Register File with `RF.CTRL` and `RF.LY`. -/
def regs (ctrl ly : Byte) : RegFile := { RegFile.reset with ctrl := ctrl, ly := ly }

/-- A sprite table in which entry `i` is `{Y, X = 8, TILE = i, ATTR = 0}`. -/
def table (y : Nat → Byte) : Memory :=
  (List.range 160).map (fun a =>
    (a, if a % 4 = 0 then y (a / 4) else if a % 4 = 1 then 8#8 else if a % 4 = 2 then BitVec.ofNat 8 (a / 4) else 0#8))

/-- A state about to scan line `ly`. -/
def scanning (ctrl ly : Byte) (y : Nat → Byte) : State :=
  { State.reset with rf := regs ctrl ly, mem.oam := table y }

/-! ### Well-formedness: each check refuses an ill-formed term -/

theorem test_external_refuses_internal_strobes :
    (Instr.scan true).external = false ∧ Instr.loadSprites.external = false ∧ Instr.pipeClock.external = false ∧
    Instr.windowVisible.external = false ∧ (Instr.renderPixel 3#2 .spr true true).external = false := by decide

theorem test_external_accepts_the_six :
    (Instr.clock true).external = true ∧ Instr.reset.external = true ∧ Instr.rdFrameReady.external = true ∧
    Instr.rdVBlank.external = true ∧ (Instr.setPalette 15#4 1#8 2#8 3#8).external = true ∧
    (Instr.setMonoPref true).external = true := by decide

theorem test_wf_refuses_blank_with_an_index : (Instr.renderPixel 1#2 .blank false false).wf = false := by decide

theorem test_wf_refuses_blank_with_a_palette : (Instr.renderPixel 0#2 .blank true false).wf = false := by decide

theorem test_wf_refuses_background_with_a_priority : (Instr.renderPixel 2#2 .bg false true).wf = false := by decide

theorem test_wf_refuses_window_with_a_palette : (Instr.renderPixel 2#2 .win true false).wf = false := by decide

theorem test_wf_accepts_sprite_pixel : (Instr.renderPixel 2#2 .spr true true).wf = true := by decide

/-! ### Decoding: words written out from R102 to R104 -/

/-- V-E1 to V-E4. -/
theorem test_decode_clock :
    decode 0x00000001#32 = .ok (.clock false) ∧ decode 0x00000011#32 = .ok (.clock true) ∧
    decode 0xFFFFFFE1#32 = .ok (.clock false) ∧ decode 0xFFFFFFF1#32 = .ok (.clock true) := by decide

/-- V-E5. -/
theorem test_decode_reset : decode 0x00000002#32 = .ok .reset ∧ decode 0x12345672#32 = .ok .reset := by decide

/-- V-E6. -/
theorem test_decode_rdFrameReady : decode 0x00000003#32 = .ok .rdFrameReady := by decide

/-- V-E7. -/
theorem test_decode_rdVBlank : decode 0x00000004#32 = .ok .rdVBlank := by decide

/-- V-E8 to V-E10. -/
theorem test_decode_setPalette :
    decode 0xD0F8E005#32 = .ok (.setPalette 0#4 0xE0#8 0xF8#8 0xD0#8) ∧
    decode 0x03020135#32 = .ok (.setPalette 3#4 0x01#8 0x02#8 0x03#8) ∧
    decode 0x030201F5#32 = .ok (.setPalette 15#4 0x01#8 0x02#8 0x03#8) := by decide

/-- V-E11, V-E12. -/
theorem test_decode_setMonoPref :
    decode 0x00000016#32 = .ok (.setMonoPref true) ∧ decode 0x00000006#32 = .ok (.setMonoPref false) := by decide

/-- Format F, opcode 0x8, flag bit 4. -/
theorem test_decode_scan : decode 0x00000018#32 = .ok (.scan true) ∧ decode 0x00000008#32 = .ok (.scan false) := by decide

/-- Format N, opcodes 0x9, 0xA, 0xB. -/
theorem test_decode_loadSprites : decode 0x00000009#32 = .ok .loadSprites := by decide
theorem test_decode_pipeClock : decode 0x0000000A#32 = .ok .pipeClock := by decide
theorem test_decode_windowVisible : decode 0x0000000B#32 = .ok .windowVisible := by decide

/-- Format X, opcode 0xC: prio bit 9, pal bit 8, src bits 7:6, idx bits 5:4, written out bit by bit. -/
theorem test_decode_renderPixel :
    decode 0b1011101100#32 = .ok (.renderPixel 2#2 .spr false true) ∧
    decode 0b0110011100#32 = .ok (.renderPixel 1#2 .win true false) ∧
    decode 0b0001111100#32 = .ok (.renderPixel 3#2 .bg false false) ∧
    decode 0xFFFFFC0C#32 = .ok (.renderPixel 0#2 .blank false false) := by decide

/-- V-E13. -/
theorem test_decode_rejects_reserved :
    decode 0x00000000#32 = .error (.reserved 0x0#4) ∧ decode 0x00000007#32 = .error (.reserved 0x7#4) ∧
    decode 0x0000000D#32 = .error (.reserved 0xD#4) ∧ decode 0x0000000E#32 = .error (.reserved 0xE#4) ∧
    decode 0xFFFFFFFF#32 = .error (.reserved 0xF#4) := by decide

/-- The row numbering of the opcode table: bit 0 of the number is `cmd[0]`, every bit above `nbits` is 0. -/
theorem test_decodeTableWord :
    decodeTableWord 32 0x03020135 = some (.setPalette 3#4 0x01#8 0x02#8 0x03#8) ∧
    decodeTableWord 8 0xFFF1 = some (.clock true) ∧ decodeTableWord 32 0x7 = none := by decide

/-- R108: a command as the script writes it. -/
theorem test_show : showInstr (.setPalette 3#4 0x01#8 0xA2#8 0x0F#8) = "SET_PALETTE idx=3, rgb=01 A2 0F" := by decide

/-! ### Effects, one step each -/

/-- R147. -/
def lineEnd : State :=
  { small 5#8 456#9 .hblank 160#8 0#15 0#8 with
    rf.wy := 3#8, rf.lyc := 6#8, blk.winVis := true, blk.wlc := 2#8, blk.wyLatch := true }

theorem test_clock_line_wrap :
    nextIs (exec (.clock false) lineEnd) (fun t =>
      t.rf.dot == 1#9 && t.blk.wlc == 3#8 && t.rf.ly == 6#8 && t.rf.mode == .objScan && t.blk.wyLatch && t.rf.coin &&
      t.blk.px == 160#8) = true := by decide

/-- V-S6: entering line 144. -/
theorem test_clock_enters_vblank :
    nextIs (exec (.clock true) (small 143#8 456#9 .hblank 160#8 23040#15 0#8)) (fun t =>
      t.rf.ly == 144#8 && t.rf.dot == 1#9 && t.rf.mode == .vblank && t.blk.cursor == 0#15 && t.blk.frameReady &&
      t.blk.vblankEntered && !t.rf.coin) = true := by decide

/-- V-S1. -/
theorem test_reset :
    nextIs (exec .reset lineEnd) (fun t =>
      t.rf.ly == 0#8 && t.rf.dot == 1#9 && t.rf.mode == .objScan && t.blk.px == 0#8 && t.blk.wlc == 0#8 &&
      !t.blk.wyLatch && !t.blk.winVis && t.rf.wy == 3#8) = true := by decide

/-- V-S8: the first read answers 1, and the latch is 0 after it; the other latch is untouched. -/
def bothLatches : State := { State.reset with blk.frameReady := true, blk.vblankEntered := true }

theorem test_rdFrameReady :
    nextIs (exec .rdFrameReady bothLatches) (fun t => t.rdata && !t.blk.frameReady && t.blk.vblankEntered) = true := by
  decide

theorem test_rdVBlank :
    nextIs (exec .rdVBlank bothLatches) (fun t => t.rdata && t.blk.frameReady && !t.blk.vblankEntered) = true := by decide

/-- V-E10. -/
theorem test_setPalette_masks_the_index :
    nextIs (exec (.setPalette 15#4 1#8 2#8 3#8) State.reset) (fun t =>
      t.blk.shadeRgb[3] == { r := 1#8, g := 2#8, b := 3#8 }) = true := by decide

/-- R239. -/
theorem test_setMonoPref :
    nextIs (exec (.setMonoPref true) { State.reset with env.colorMode := true }) (fun t =>
      t.blk.monoPref && !t.onColorPath) = true := by decide

/-- R177 (1): `t = 26`; entries 0 (`Y = 26`) and 1 (`Y = 19`) qualify, entry 2 (`Y = 18`) does not. -/
theorem test_scan_boundaries :
    nextIs (exec (.scan false) (scanning 0#8 10#8 (fun i =>
        if i = 0 then 26#8 else if i = 1 then 19#8 else if i = 2 then 18#8 else 0#8))) (fun t =>
      t.blk.nsel == 2#4 && t.blk.sel[0].tile == 0#8 && t.blk.sel[1].tile == 1#8 && t.blk.pipeSpr[1].y == 19#8) = true := by
  decide

/-- V-N5: all forty qualify, the first ten stay. -/
theorem test_scan_caps_at_ten :
    nextIs (exec (.scan false) (scanning 0#8 0#8 (fun i => if i < 5 then 0#8 else 16#8))) (fun t =>
      t.blk.nsel == 10#4 && t.blk.sel[0].tile == 5#8 && t.blk.sel[9].tile == 14#8 && t.blk.stallBudget == 216#8) = true := by
  decide

/-- One sprite entry. -/
def sprite : ObjEntry := { y := 16#8, x := 8#8, tile := 2#8, attr := 0#8 }

theorem test_loadSprites :
    nextIs (exec .loadSprites { State.reset with blk.nsel := 1#4, blk.sel := Vector.replicate 10 sprite }) (fun t =>
      t.blk.npipe == 1#4 && t.blk.pipeSpr[0] == sprite && t.blk.pipeSpr[1] == emptySlot &&
      t.blk.stallBudget == 216#8) = true := by decide

/-- R214 (1): background, column 1. -/
theorem test_pipeClock_background :
    nextIs (exec .pipeClock
        { State.reset with
          rf := regs 0x91#8 0#8
          blk.px := 1#8
          mem.vram0 := [(0x10, 0xA0#8), (0x11, 0xC0#8), (0x1800, 0x01#8)] }) (fun t =>
      t.pixWire == some { src := .bg, idx := 2#2, pal := false, prio := false } && !t.blk.winVis) = true := by decide

/-- R214 (5): a sprite on column 0. -/
def spriteScene (attr : Byte) : State :=
  { State.reset with
    rf := regs 0x93#8 0#8
    blk.npipe := 1#4
    blk.pipeSpr := Vector.replicate 10 { sprite with attr := attr }
    mem.vram0 := [(0x00, 0#8), (0x01, 0#8), (0x20, 0x80#8), (0x21, 0x00#8), (0x1800, 0#8)] }

theorem test_pipeClock_sprite :
    nextIs (exec .pipeClock (spriteScene 0#8)) (fun t =>
      t.pixWire == some { src := .spr, idx := 1#2, pal := false, prio := false }) = true ∧
    nextIs (exec .pipeClock (spriteScene 0x20#8)) (fun t =>
      t.pixWire == some { src := .bg, idx := 0#2, pal := false, prio := false }) = true := by decide

theorem test_windowVisible :
    nextIs (exec .windowVisible { State.reset with blk.winVis := true }) (fun t => t.winWire && t.blk.winVis) = true := by
  decide

/-- R237: cursor 161, `BGP = 0xE4`, a background pixel of index 2. -/
def renderScene : State :=
  { small 1#8 200#9 .xfer 1#8 161#15 0#8 with
    rf.bgp := 0xE4#8
    rf.obp1 := 0xD2#8
    blk.shadeRgb := #v[{ r := 1#8, g := 2#8, b := 3#8 }, { r := 4#8, g := 5#8, b := 6#8 },
      { r := 0x55#8, g := 0x56#8, b := 0x57#8 }, { r := 7#8, g := 8#8, b := 9#8 }]
    blk.monoPref := true }

theorem test_renderPixel_background :
    nextIs (exec (.renderPixel 2#2 .bg false false) renderScene) (fun t =>
      t.mem.fb == [(483, 0x55#8), (484, 0x56#8), (485, 0x57#8)] && t.blk.cursor == 162#15) = true := by decide

/-- R237: `{SPR, idx 2, pal 1}` with `OBP1 = 0xD2` has shade 1. -/
theorem test_renderPixel_sprite :
    nextIs (exec (.renderPixel 2#2 .spr true false) renderScene) (fun t =>
      t.mem.fb == [(483, 4#8), (484, 5#8), (485, 6#8)]) = true := by decide

/-- R32, R6: bits 7:3 are the host's, bit 2 the coincidence bit, bits 1:0 the mode code. -/
theorem test_stat :
    { RegFile.reset with statHi := 0b10110#5, coin := true, mode := .vblank }.stat = 0b10110101#8 ∧
    { RegFile.reset with statHi := 0b01001#5, coin := false, mode := .xfer }.stat = 0b01001011#8 ∧
    RegFile.reset.stat.extractLsb' 0 2 = 2#2 ∧ { RegFile.reset with mode := .hblank }.stat.extractLsb' 0 2 = 0#2 := by
  decide

/-! ### Memory and the port -/

theorem test_memory_canonical :
    Memory.put (Memory.put (Memory.put [] 5 1#8) 3 2#8) 5 7#8 = [(3, 2#8), (5, 7#8)] ∧
    Memory.wf [(3, 2#8), (3, 1#8)] = false ∧ Memory.wf [(4, 2#8), (3, 1#8)] = false ∧
    Memory.wf [(3, 1#8), (4, 1#8)] = true ∧ Memory.inside 160 [(160, 0#8)] = false := by decide

/-- V-E14 on the port, and the same word on the strobe wires. -/
theorem test_port_and_strobes :
    nextIs (step (withWord { State.reset with rdata := true, blk.winVis := true } 0x0000000B#32)) (fun t =>
      !t.winWire && !t.rdata && t.pending == []) = true ∧
    nextIs (step ({ State.reset with blk.winVis := true }.withFetchWord 32 0xB)) (fun t => t.winWire) = true := by decide

/-! ### Witnesses: states and operands that meet the hypotheses of the obligations, clause by clause -/

theorem nextIs_elim {o : Outcome State Fault Refusal} {p : State → Bool} (h : nextIs o p = true) :
    ∃ t, o = .next t ∧ p t = true := by
  cases o with
  | next t => exact ⟨t, rfl, h⟩
  | fault r => cases h
  | refused r => cases h

/-- A state with a host move next. -/
def withMove (m : HostMove) : State := { State.reset with pending := [.host m] }

theorem witness_DecodeReadsTheNamedFields :
    (0xFFFFFFF1#32).extractLsb' 0 4 = 0x1#4 ∧ (0xFFFFFFF2#32).extractLsb' 0 4 = 0x2#4 ∧
    (0xFFFFFFF3#32).extractLsb' 0 4 = 0x3#4 ∧ (0xFFFFFFF4#32).extractLsb' 0 4 = 0x4#4 ∧
    (0xFFFFFFF5#32).extractLsb' 0 4 = 0x5#4 ∧ (0xFFFFFFF6#32).extractLsb' 0 4 = 0x6#4 ∧
    (0xFFFFFFF8#32).extractLsb' 0 4 = 0x8#4 ∧ (0xFFFFFFF9#32).extractLsb' 0 4 = 0x9#4 ∧
    (0xFFFFFFFA#32).extractLsb' 0 4 = 0xA#4 ∧ (0xFFFFFFFB#32).extractLsb' 0 4 = 0xB#4 ∧
    ((0xFFFFFF0C#32).extractLsb' 0 4 = 0xC#4 ∧ (0xFFFFFF0C#32).extractLsb' 6 2 = 0#2) ∧
    ((0xFFFFFF4C#32).extractLsb' 0 4 = 0xC#4 ∧ (0xFFFFFF4C#32).extractLsb' 6 2 = 1#2) ∧
    ((0xFFFFFF8C#32).extractLsb' 0 4 = 0xC#4 ∧ (0xFFFFFF8C#32).extractLsb' 6 2 = 2#2) ∧
    ((0xFFFFFFCC#32).extractLsb' 0 4 = 0xC#4 ∧ (0xFFFFFFCC#32).extractLsb' 6 2 = 3#2) ∧
    (0xFFFFFFF0#32).extractLsb' 0 4 = 0x0#4 ∧ (0xFFFFFFF7#32).extractLsb' 0 4 = 0x7#4 ∧
    (0xFFFFFFFD#32).extractLsb' 0 4 = 0xD#4 ∧ (0xFFFFFFFE#32).extractLsb' 0 4 = 0xE#4 ∧
    (0xFFFFFFFF#32).extractLsb' 0 4 = 0xF#4 := by decide

theorem witness_EncodeInvertsDecodeOnNamedBits : decode 0xFFFFFFF1#32 = .ok (.clock true) := by decide

theorem witness_IgnoredBitsHaveNoEffect :
    0x11#32 ≠ 0xABCDEF11#32 ∧ 0x11#32 &&& namedBits ((0x11#32).extractLsb' 0 4) =
      0xABCDEF11#32 &&& namedBits ((0x11#32).extractLsb' 0 4) := by decide

theorem witness_PortIgnoresReservedAndInternalWords :
    (withWord State.reset 0x7#32).strobe = none ∧ (withWord State.reset 0x7#32).pending = .cmd 0x7#32 :: [] ∧
    ((0x0#32).extractLsb' 0 4).toNat = 0 ∧ 7 ≤ ((0x7#32).extractLsb' 0 4).toNat ∧
    7 ≤ ((0x8#32).extractLsb' 0 4).toNat ∧ 7 ≤ ((0x3FC#32).extractLsb' 0 4).toNat ∧
    7 ≤ ((0xFFFFFFFF#32).extractLsb' 0 4).toNat := ⟨rfl, rfl, by decide, by decide, by decide, by decide, by decide⟩

theorem witness_StepRunsTheDecodedOperation :
    ((withWord State.reset 0x11#32).strobe = none ∧ (withWord State.reset 0x11#32).pending = .cmd 0x11#32 :: [] ∧
      decode 0x11#32 = .ok (.clock true) ∧ (Instr.clock true).external = true) ∧
    ({ State.reset with strobe := some 0x18#32 }.strobe = some 0x18#32 ∧ decode 0x18#32 = .ok (.scan true)) :=
  ⟨⟨rfl, rfl, by decide, by decide⟩, rfl, by decide⟩

theorem witness_FetchWordRunsItsRow :
    decodeTableWord 32 0x3EC = some (.renderPixel 2#2 .spr true true) ∧ decodeTableWord 8 0x11 = some (.clock true) := by
  decide

theorem witness_StepHoldsStateWhenNothingIsPresented : State.reset.strobe = none ∧ State.reset.pending = [] := ⟨rfl, rfl⟩

theorem witness_HostMovesLeaveBlockOwnedStateAlone :
    (withMove (.wx 255#8)).strobe = none ∧ (withMove (.wx 255#8)).pending = .host (.wx 255#8) :: [] ∧
    HostMove.wx 255#8 ≠ .powerCycle := ⟨rfl, rfl, by decide⟩

theorem witness_HostMemoryWriteIsReadBack :
    (withMove (.oam 159 7#8)).pending = .host (.oam 159 7#8) :: [] ∧
    (withMove (.vram0 8191 7#8)).pending = .host (.vram0 8191 7#8) :: [] ∧
    (withMove (.vram1 8191 7#8)).pending = .host (.vram1 8191 7#8) :: [] ∧
    (withMove (.oam 159 7#8)).strobe = none ∧ (withMove (.vram0 8191 7#8)).strobe = none ∧
    (withMove (.vram1 8191 7#8)).strobe = none := ⟨rfl, rfl, rfl, rfl, rfl, rfl⟩

/-- A machine that awaits the RESET of R274, with a command the port accepts waiting. -/
def awaiting : State := { State.reset with awaitReset := true, pending := [.cmd 0x00000016#32] }

/-- The power cycle; a state that waits, and a step of it that is not RESET and completes. -/
theorem witness_PowerOnThenOnlyResetRestartsTheClock :
    ((withMove .powerCycle).strobe = none ∧ (withMove .powerCycle).pending = .host .powerCycle :: []) ∧
    awaiting.awaitReset = true ∧ (fetch awaiting).1 ≠ .run .reset ∧
    ∃ t, step awaiting = .next t ∧ t.blk.monoPref = true :=
  ⟨⟨rfl, rfl⟩, rfl, by decide, nextIs_elim (by decide)⟩

theorem witness_PowerOnLeavesHostRegistersFree :
    (withMove .powerCycle).strobe = none ∧ (withMove .powerCycle).pending = .host .powerCycle :: [] := ⟨rfl, rfl⟩

/-- Each of the four modes; a CLOCK and a RESET that complete; a host write of bits 7:3. -/
theorem witness_StatusRegisterShowsModeCoincidenceAndHostBits :
    ({ RegFile.reset with mode := .hblank }.mode = .hblank ∧ { RegFile.reset with mode := .vblank }.mode = .vblank ∧
      RegFile.reset.mode = .objScan ∧ { RegFile.reset with mode := .xfer }.mode = .xfer) ∧
    (∃ t, exec (.clock false) lineEnd = .next t ∧ t.rf.coin = true) ∧ (∃ t, exec .reset lineEnd = .next t) ∧
    (withMove (.statHi 31#5)).strobe = none ∧ (withMove (.statHi 31#5)).pending = .host (.statHi 31#5) :: [] :=
  ⟨⟨rfl, rfl, rfl, rfl⟩, nextIs_elim (by decide), ⟨_, rfl⟩, rfl, rfl⟩

theorem witness_HostRegisterWriteIsHeld :
    (∀ m, (withMove m).strobe = none ∧ (withMove m).pending = .host m :: []) ∧
    (withMove (.ctrl 255#8)).rf.ctrl ≠ 255#8 ∧ (withMove (.statHi 31#5)).rf.statHi ≠ 31#5 ∧
    (withMove (.colorMode true)).env.colorMode ≠ true ∧ (withMove (.cpal [1#8])).env.cpal ≠ [1#8] :=
  ⟨fun _ => ⟨rfl, rfl⟩, by decide, by decide, by decide, by decide⟩

theorem witness_ResetIsIdempotent : ∃ t, exec .reset lineEnd = .next t := ⟨_, rfl⟩

theorem witness_ReadFrameReadyTakesTheLatch :
    bothLatches.awaitReset = false ∧ ∃ t, exec .rdFrameReady bothLatches = .next t := ⟨rfl, _, rfl⟩

theorem witness_ReadVBlankTakesTheLatch :
    bothLatches.awaitReset = false ∧ ∃ t, exec .rdVBlank bothLatches = .next t := ⟨rfl, _, rfl⟩

/-- With `BGP = 0xE4` a background pixel of index 3 has shade 3, the entry that `idx4 = 7` and `idx4 = 15` select. -/
theorem witness_SetPaletteWritesTheMaskedEntry :
    (shadeOf (paletteFor renderScene.rf { src := .bg, idx := 3#2, pal := false, prio := false }) 3#2).toNat =
      (15#4).toNat % 4 ∧
    (15#4).toNat % 4 = 3 ∧ (7#4).toNat % 4 = 3 ∧ ∃ t, exec .reset renderScene = .next t :=
  ⟨by decide, by decide, by decide, _, rfl⟩

theorem witness_SetMonoPrefWritesThePreference :
    ∃ t u, exec (.setMonoPref true) State.reset = .next t ∧ exec .reset t = .next u := ⟨_, _, rfl, rfl⟩

theorem witness_LoadSpritesReplacesTheCandidates :
    (0xFFFFFFF9#32).extractLsb' 0 4 = 0x9#4 ∧ (withWord State.reset 0xFFFFFFF9#32).strobe = none ∧
    (withWord State.reset 0xFFFFFFF9#32).pending = .cmd 0xFFFFFFF9#32 :: [] := ⟨by decide, rfl, rfl⟩

theorem witness_PipeClockStallsOrYieldsOnePixel :
    (small 0#8 100#9 .xfer 159#8 159#15 216#8).blk.px.toNat < 160 ∧
    0 < (small 0#8 100#9 .xfer 159#8 159#15 216#8).blk.stallBudget.toNat ∧
    (small 0#8 100#9 .xfer 0#8 0#15 0#8).blk.stallBudget.toNat = 0 := by decide

/-- No budget, and a budget that the free choice may spend. -/
theorem witness_PipeClockPastTheLastColumnYieldsAFreePixel :
    (160 ≤ (small 0#8 100#9 .xfer 160#8 159#15 0#8).blk.px.toNat ∧
      (small 0#8 100#9 .xfer 160#8 159#15 0#8).blk.stallBudget.toNat = 0) ∧
    (160 ≤ (small 0#8 100#9 .xfer 255#8 159#15 216#8).blk.px.toNat ∧
      0 < (small 0#8 100#9 .xfer 255#8 159#15 216#8).blk.stallBudget.toNat) := by decide

/-- A state with the window enabled, its line latched, and a window position. -/
def windowAt (wx : Byte) : State := { State.reset with rf.ctrl := 0x20#8, rf.wx := wx, blk.wyLatch := true }

/-- V-P10, at the columns and positions where the clauses meet. -/
theorem witness_WindowConditionsFollowRule199 :
    (0xFF#8).getLsbD 5 = (windowAt 87#8).rf.ctrl.getLsbD 5 ∧
    (windowAt 87#8).winActive 80 = true ∧ (windowAt 87#8).winActive 159 = true ∧
    79 + 8 ≤ (windowAt 87#8).rf.wx.toNat ∧ (windowAt 87#8).rf.wx.toNat ≤ 80 + 7 ∧
    (windowAt 7#8).rf.wx.toNat ≤ 7 ∧ (windowAt 7#8).winActive 0 = true ∧
    (windowAt 166#8).winActive 158 = false ∧ (windowAt 166#8).winActive 159 = true ∧
    167 ≤ (windowAt 167#8).rf.wx.toNat ∧ (windowAt 167#8).winActive 159 = false := by decide

/-- A 16-unit sprite's last row and an 8-unit sprite's first, the last triplet, and a byte past the end of OAM. -/
theorem witness_EveryFetchAddressIsInItsSpace :
    (0 ≤ shownRow (regs 0x04#8 15#8) sprite ∧ shownRow (regs 0x04#8 15#8) sprite = 15 ∧
      shownRow (regs 0x04#8 15#8) sprite < (regs 0x04#8 15#8).spriteHeight) ∧
    (shownRow (regs 0#8 0#8) sprite = 0 ∧ shownRow (regs 0#8 0#8) sprite < (regs 0#8 0#8).spriteHeight) ∧
    (small 143#8 240#9 .xfer 159#8 23039#15 0#8).blk.cursor.toNat ≤ 23039 ∧
    ∀ a, a ≤ 159 → { State.reset with mem.oam := [(160, 7#8)] }.oamByte a = State.reset.oamByte a := by
  refine ⟨by decide, by decide, by decide, fun a ha => ?_⟩
  have h : Memory.byteAt [(160, 7#8)] a = Memory.byteAt [] a := if_neg (by omega)
  simp only [State.oamByte, h]
  rfl

theorem witness_UnderLayerFollowsItsRules :
    State.reset.rf.ctrl.getLsbD 0 = false ∧
    ({ windowAt 87#8 with rf.ctrl := 0x21#8 }.rf.ctrl.getLsbD 0 = true ∧
      { windowAt 87#8 with rf.ctrl := 0x21#8 }.winActive 80 = true) ∧
    ({ windowAt 87#8 with rf.ctrl := 0x21#8 }.rf.ctrl.getLsbD 0 = true ∧
      { windowAt 87#8 with rf.ctrl := 0x21#8 }.winActive 79 = false) := by decide

/-- The sprite at `X = 8` covers columns 0 to 7. Row 15 of a 16-unit sprite; row 8 once `RF.CTRL[2]` is 0; row -1. -/
theorem witness_SpritePixelFollowsRule207 :
    (sprite.x.toNat ≤ 8 ∧ 7 + 8 < 16) ∧
    (sprite.x.toNat ≤ 0 + 8 ∧ 0 < sprite.x.toNat ∧ 15 + 16 = sprite.y.toNat + 15 ∧ 15 < 16 ∧
      (regs 0x04#8 15#8).ctrl.getLsbD 2 = true) ∧
    (sprite.x.toNat ≤ 7 + 8 ∧ 7 < sprite.x.toNat ∧
      sprite.y.toNat + (regs 0#8 8#8).spriteHeight ≤ (regs 0#8 8#8).ly.toNat + 16) ∧
    ({ sprite with y := 17#8 }.x.toNat ≤ 7 + 8 ∧ 7 < { sprite with y := 17#8 }.x.toNat ∧
      (regs 0#8 0#8).ly.toNat + 16 < { sprite with y := 17#8 }.y.toNat) := by decide

theorem witness_FirstSlotInSetOrderSuppliesTheSprite :
    (spriteScene 0#8).blk.npipe.toNat ≤ 10 ∧
    (spriteScene 0#8).sprCand 0 = some { idx := 1#2, pal := false, prio := false } ∧
    (spriteScene 0#8).sprCand 1 = none := by decide

/-- The five rows of R210: sprites disabled; no candidate; priority 0; priority 1 over index 0; priority 1 over index 3. -/
theorem witness_CompositingFollowsTheTableOfRule210 :
    { spriteScene 0#8 with rf.ctrl := 0x91#8 }.rf.ctrl.getLsbD 1 = false ∧
    (spriteScene 0#8).sprCand 1 = none ∧
    ((spriteScene 0x10#8).rf.ctrl.getLsbD 1 = true ∧
      (spriteScene 0x10#8).sprCand 0 = some { idx := 1#2, pal := true, prio := false }) ∧
    ((spriteScene 0x80#8).sprCand 0 = some { idx := 1#2, pal := false, prio := true } ∧
      ((spriteScene 0x80#8).underPixel 0).idx = 0#2) ∧
    ({ spriteScene 0x80#8 with
        mem.vram0 := [(0x00, 0xFF#8), (0x01, 0xFF#8), (0x20, 0x80#8), (0x21, 0x00#8), (0x1800, 0#8)] }.sprCand 0 =
        some { idx := 1#2, pal := false, prio := true } ∧
      ({ spriteScene 0x80#8 with
        mem.vram0 := [(0x00, 0xFF#8), (0x01, 0xFF#8), (0x20, 0x80#8), (0x21, 0x00#8), (0x1800, 0#8)] }.underPixel 0).idx ≠
        0#2) := by decide

/-- The two states differ in the dot, the column count, the stall budget and a palette. -/
theorem witness_ComposeReadsNothingBeyondRule196 :
    (spriteScene 0#8).blk.npipe.toNat ≤ 10 ∧ (spriteScene 0#8).RowsInHeight ∧
    SameComposeInputs (spriteScene 0#8)
      { spriteScene 0#8 with rf.dot := 300#9, rf.bgp := 0xE4#8, blk.px := 77#8, blk.stallBudget := 3#8 } := by
  refine ⟨by decide, ?_, ⟨rfl, rfl, rfl, rfl, rfl, rfl, rfl, rfl, rfl, fun _ => rfl⟩⟩
  unfold State.RowsInHeight
  decide

/-- The last triplet, object palette 1, index 3; and the path chosen by the colour mode alone. -/
theorem witness_MonochromeRenderWritesTheShadeTriplet :
    (renderScene.env.colorMode = false ∨ renderScene.blk.monoPref = true) ∧
    { renderScene with blk.cursor := 23039#15 }.blk.cursor.toNat < 23040 ∧
    renderScene.rf.obp1.toNat / 4 ^ (3#2).toNat % 4 = 3 ∧ renderScene.rf.bgp.toNat / 4 ^ (0#2).toNat % 4 = 0 := by decide

theorem witness_ColourRenderWritesTheColorPathTriplet :
    { State.reset with env.colorMode := true, blk.monoPref := false }.env.colorMode = true ∧
    { State.reset with env.colorMode := true, blk.monoPref := false }.blk.monoPref = false ∧
    { State.reset with env.colorMode := true, blk.monoPref := false }.blk.cursor.toNat < 23040 := by decide

/-- The cursor of R236 and U17, the one past it, and the last value its width holds. -/
theorem witness_RenderOnAFullBufferFaults :
    (small 143#8 240#9 .xfer 159#8 23040#15 0#8).blk.cursor.toNat = 23040 ∧
    23040 < (small 143#8 240#9 .xfer 159#8 23041#15 0#8).blk.cursor.toNat ∧
    23040 < (small 143#8 240#9 .xfer 159#8 32767#15 0#8).blk.cursor.toNat := by decide

/-! #### Legal states at the places where the clauses meet -/

/-- The last dot of the last visible line, complete. -/
def endOfPicture : State := small 143#8 456#9 .hblank 160#8 23040#15 216#8

/-- The last dot of a frame. -/
def endOfFrame : State := { small 153#8 456#9 .vblank 160#8 0#15 216#8 with rf.wy := 0#8, blk.winVis := true }

/-- The last dot of line 149, in VBlank. -/
def inVBlank : State := small 149#8 456#9 .vblank 160#8 0#15 216#8

/-- The dot before the scan of line 0, no sprite on any line. -/
def beforeScan : State := { small 0#8 79#9 .objScan 160#8 0#15 0#8 with mem.oam := table (fun _ => 0#8) }

/-- Right after the scan of a line. -/
def afterScan (ly : Byte) (cursor : BitVec 15) : State := small ly 80#9 .objScan 0#8 cursor 216#8

/-- The dot before the last pixel of line 143, every stall spent. The pixel is blank. -/
def lastPixel : State := small 143#8 455#9 .xfer 159#8 23039#15 0#8

/-- A complete line at dot 81 or later. -/
def lineDone : State := small 7#8 240#9 .hblank 160#8 1280#15 216#8

theorem legal_endOfPicture : endOfPicture.Legal := by
  refine ⟨⟨?_, ?_, ?_⟩, ?_, ?_, ?_, ?_, ?_, ?_, ?_, ?_, ?_, ?_⟩ <;> decide

theorem legal_endOfFrame : endOfFrame.Legal := by
  refine ⟨⟨?_, ?_, ?_⟩, ?_, ?_, ?_, ?_, ?_, ?_, ?_, ?_, ?_, ?_⟩ <;> decide

theorem legal_inVBlank : inVBlank.Legal := by
  refine ⟨⟨?_, ?_, ?_⟩, ?_, ?_, ?_, ?_, ?_, ?_, ?_, ?_, ?_, ?_⟩ <;> decide

theorem legal_beforeScan : beforeScan.Legal := by
  refine ⟨⟨?_, ?_, ?_⟩, ?_, ?_, ?_, ?_, ?_, ?_, ?_, ?_, ?_, ?_⟩ <;> decide

theorem legal_afterScan_first : (afterScan 0#8 0#15).Legal := by
  refine ⟨⟨?_, ?_, ?_⟩, ?_, ?_, ?_, ?_, ?_, ?_, ?_, ?_, ?_, ?_⟩ <;> decide

theorem legal_afterScan_last : (afterScan 143#8 22880#15).Legal := by
  refine ⟨⟨?_, ?_, ?_⟩, ?_, ?_, ?_, ?_, ?_, ?_, ?_, ?_, ?_, ?_⟩ <;> decide

theorem legal_lastPixel : lastPixel.Legal := by
  refine ⟨⟨?_, ?_, ?_⟩, ?_, ?_, ?_, ?_, ?_, ?_, ?_, ?_, ?_, ?_⟩ <;> decide

theorem legal_lineDone : lineDone.Legal := by
  refine ⟨⟨?_, ?_, ?_⟩, ?_, ?_, ?_, ?_, ?_, ?_, ?_, ?_, ?_, ?_⟩ <;> decide

/-- A pixel in mid-line, every stall spent. -/
def midLine : State := small 3#8 300#9 .xfer 4#8 484#15 0#8

theorem legal_midLine : midLine.Legal := by
  refine ⟨⟨?_, ?_, ?_⟩, ?_, ?_, ?_, ?_, ?_, ?_, ?_, ?_, ?_, ?_⟩ <;> decide

/-- At dot 455 of line 143, at dot 456 of lines 143 and 153. -/
theorem witness_ClockCompletesAndAdvancesOneDot :
    (lastPixel.Legal ∧ lastPixel.awaitReset = false ∧ lastPixel.rf.dot.toNat < 456) ∧
    (endOfPicture.Legal ∧ endOfPicture.awaitReset = false ∧ endOfPicture.rf.dot.toNat = 456) ∧
    (endOfFrame.Legal ∧ endOfFrame.awaitReset = false ∧ endOfFrame.rf.ly.toNat = 153) :=
  ⟨⟨legal_lastPixel, by decide, by decide⟩, ⟨legal_endOfPicture, by decide, by decide⟩,
    legal_endOfFrame, by decide, by decide⟩

/-- VBlank at line 144, ObjectScan at dot 80, PixelTransfer at dot 296 with no pixel out, HBlank with 160 out. -/
theorem witness_ModeIsAFunctionOfThePosition :
    (endOfPicture.Legal ∧ ∃ t, exec (.clock false) endOfPicture = .next t ∧ decide (144 ≤ t.rf.ly.toNat) = true) ∧
    (beforeScan.Legal ∧ ∃ t, exec (.clock false) beforeScan = .next t ∧
      decide (t.rf.ly.toNat < 144 ∧ t.rf.dot.toNat ≤ 80) = true) ∧
    (lastPixel.Legal ∧ ∃ t, exec (.clock false) lastPixel = .next t ∧
      decide (t.rf.ly.toNat < 144 ∧ 81 ≤ t.rf.dot.toNat ∧ t.blk.px.toNat = 160) = true) ∧
    (midLine.Legal ∧ ∃ t, exec (.clock false) midLine = .next t ∧
      decide (t.rf.ly.toNat < 144 ∧ 81 ≤ t.rf.dot.toNat ∧ t.blk.px.toNat < 160) = true) ∧
    ∃ t, exec .reset endOfFrame = .next t :=
  ⟨⟨legal_endOfPicture, nextIs_elim (by decide)⟩, ⟨legal_beforeScan, nextIs_elim (by decide)⟩,
    ⟨legal_lastPixel, nextIs_elim (by decide)⟩, ⟨legal_midLine, nextIs_elim (by decide)⟩, _, rfl⟩

theorem witness_ClockRecomputesCoincidence : ∃ t, exec (.clock true) lineEnd = .next t ∧ t.rf.coin = true :=
  nextIs_elim (by decide)

/-- Into line 144; at another dot; into line 150. -/
theorem witness_EnteringLine144SetsBothLatches :
    (endOfPicture.PositionLegal ∧ ∃ t, exec (.clock false) endOfPicture = .next t ∧
      decide (t.rf.ly.toNat = 144 ∧ t.rf.dot.toNat = 1) = true) ∧
    (lineDone.PositionLegal ∧ ∃ t, exec (.clock false) lineDone = .next t ∧
      decide (¬(t.rf.ly.toNat = 144 ∧ t.rf.dot.toNat = 1)) = true) ∧
    (inVBlank.PositionLegal ∧ ∃ t, exec (.clock false) inVBlank = .next t ∧
      decide (144 ≤ t.rf.ly.toNat ∧ t.rf.dot.toNat = 1) = true) :=
  ⟨⟨legal_endOfPicture.position, nextIs_elim (by decide)⟩, ⟨legal_lineDone.position, nextIs_elim (by decide)⟩,
    legal_inVBlank.position, nextIs_elim (by decide)⟩

/-- Inside a line; into line 0, which is `RF.WY`; into line 0, which is not, so that only the clear applies; into line
144, where the latch keeps its value. -/
theorem witness_WindowYLatchIsSetAtTheLineStart :
    (lineDone.PositionLegal ∧ ∃ t, exec (.clock false) lineDone = .next t ∧ decide (t.rf.dot.toNat ≠ 1) = true) ∧
    (endOfFrame.PositionLegal ∧ ∃ t, exec (.clock false) endOfFrame = .next t ∧
      decide (t.rf.dot.toNat = 1 ∧ t.rf.ly.toNat < 144 ∧ t.rf.ly = endOfFrame.rf.wy) = true) ∧
    ({ endOfFrame with rf.wy := 5#8, blk.wyLatch := true }.PositionLegal ∧
      ∃ t, exec (.clock false) { endOfFrame with rf.wy := 5#8, blk.wyLatch := true } = .next t ∧
        decide (t.rf.dot.toNat = 1 ∧ t.rf.ly.toNat = 0 ∧ t.rf.ly ≠ 5#8 ∧ t.blk.wyLatch = false) = true) ∧
    (endOfPicture.PositionLegal ∧ ∃ t, exec (.clock false) endOfPicture = .next t ∧
      decide (t.rf.dot.toNat = 1 ∧ ¬ t.rf.ly.toNat < 144) = true) :=
  ⟨⟨legal_lineDone.position, nextIs_elim (by decide)⟩, ⟨legal_endOfFrame.position, nextIs_elim (by decide)⟩,
    ⟨⟨by decide, by decide, by decide⟩, nextIs_elim (by decide)⟩,
    legal_endOfPicture.position, nextIs_elim (by decide)⟩

/-- Inside a line; into line 0 with the window visible; into another line with it visible. -/
theorem witness_WindowLineCounterAdvancesAtTheWrap :
    (lineDone.PositionLegal ∧ ∃ t, exec (.clock false) lineDone = .next t ∧ decide (t.rf.dot.toNat ≠ 1) = true) ∧
    (endOfFrame.PositionLegal ∧ endOfFrame.blk.winVis = true ∧ ∃ t, exec (.clock false) endOfFrame = .next t ∧
      decide (t.rf.dot.toNat = 1 ∧ t.rf.ly.toNat = 0) = true) ∧
    (lineEnd.PositionLegal ∧ lineEnd.blk.winVis = true ∧ ∃ t, exec (.clock false) lineEnd = .next t ∧
      decide (t.rf.dot.toNat = 1 ∧ t.rf.ly.toNat ≠ 0) = true) :=
  ⟨⟨legal_lineDone.position, nextIs_elim (by decide)⟩,
    ⟨legal_endOfFrame.position, by decide, nextIs_elim (by decide)⟩,
    ⟨by decide, by decide, by decide⟩, by decide, nextIs_elim (by decide)⟩

/-- The dot before dot 80 of the first invisible line, at a column count that only a new scan would clear. -/
def invisibleDot79 : State := small 144#8 79#9 .vblank 160#8 0#15 216#8

theorem legal_invisibleDot79 : invisibleDot79.Legal := by
  refine ⟨⟨?_, ?_, ?_⟩, ?_, ?_, ?_, ?_, ?_, ?_, ?_, ?_, ?_, ?_⟩ <;> decide

/-- Dot 80 of a visible line; a complete line; a dot that counts a pixel; dot 80 of line 144. -/
theorem witness_ScannerRunsExactlyAtDot80OfVisibleLines :
    (beforeScan.Legal ∧ (∃ t, exec (.clock true) beforeScan = .next t ∧ decide (t.blk.px = 0#8) = true) ∧
      beforeScan.rf.dot.toNat = 79 ∧ beforeScan.rf.ly.toNat < 144) ∧
    (lineDone.Legal ∧ ¬(lineDone.rf.dot.toNat = 79 ∧ lineDone.rf.ly.toNat < 144) ∧
      ∃ t, exec (.clock true) lineDone = .next t ∧
        decide (t.rf.ly.toNat < 144 ∧ 81 ≤ t.rf.dot.toNat ∧ t.blk.px.toNat = 160) = true) ∧
    (lastPixel.Legal ∧ ¬(lastPixel.rf.dot.toNat = 79 ∧ lastPixel.rf.ly.toNat < 144) ∧
      ∃ t, exec (.clock true) lastPixel = .next t ∧
        decide (t.rf.ly.toNat < 144 ∧ 81 ≤ t.rf.dot.toNat ∧ lastPixel.blk.px.toNat < 160) = true) ∧
    (invisibleDot79.Legal ∧ invisibleDot79.rf.dot.toNat = 79 ∧ 144 ≤ invisibleDot79.rf.ly.toNat ∧
      ∃ t, exec (.clock false) invisibleDot79 = .next t ∧
        decide (144 ≤ t.rf.ly.toNat ∧ t.rf.dot.toNat = 80) = true) :=
  ⟨⟨legal_beforeScan, nextIs_elim (by decide), by decide, by decide⟩,
    ⟨legal_lineDone, by decide, nextIs_elim (by decide)⟩, ⟨legal_lastPixel, by decide, nextIs_elim (by decide)⟩,
    legal_invisibleDot79, by decide, by decide, nextIs_elim (by decide)⟩

/-- Outside PixelTransfer, and on the dot that enters it. -/
theorem witness_ClockTransferIsThePipelineThenTheRenderer :
    (lineEnd.awaitReset = false ∧ (lineEnd.beforeTransfer false).rf.mode ≠ .xfer) ∧
    ((afterScan 0#8 0#15).awaitReset = false ∧ ((afterScan 0#8 0#15).beforeTransfer false).rf.mode = .xfer) := by decide

/-- A CLOCK that renders a pixel, and one that renders none. -/
theorem witness_ClockWritesNoMemoryButTheTripletAtTheCursor :
    (∃ t, exec (.clock false) lastPixel = .next t ∧
      decide (t.blk.cursor = lastPixel.blk.cursor + 1#15 ∧ t.mem.fb.length = 3) = true) ∧
    (∃ t, exec (.clock false) endOfPicture = .next t ∧
      decide (t.blk.cursor ≠ endOfPicture.blk.cursor + 1#15) = true) :=
  ⟨nextIs_elim (by decide), nextIs_elim (by decide)⟩

theorem witness_NothingIsDrawnOutsidePixelTransfer :
    (endOfPicture.Legal ∧ ∃ t, exec (.clock false) endOfPicture = .next t ∧ decide (144 ≤ t.rf.ly.toNat) = true) ∧
    (beforeScan.Legal ∧ ∃ t, exec (.clock false) beforeScan = .next t ∧ decide (t.rf.dot.toNat ≤ 80) = true) ∧
    (lineDone.Legal ∧ (∃ t, exec (.clock false) lineDone = .next t ∧ decide (t.rf.ly.toNat < 144) = true) ∧
      81 ≤ lineDone.rf.dot.toNat ∧ lineDone.blk.px.toNat = 160) :=
  ⟨⟨legal_endOfPicture, nextIs_elim (by decide)⟩, ⟨legal_beforeScan, nextIs_elim (by decide)⟩,
    legal_lineDone, nextIs_elim (by decide), by decide, by decide⟩

/-- The last pixel of line 143, whose triplet holds the bytes of an earlier frame. -/
def staleTriplet : State :=
  { lastPixel with
    blk.shadeRgb := #v[{ r := 1#8, g := 2#8, b := 3#8 }, { r := 4#8, g := 5#8, b := 6#8 },
      { r := 0x55#8, g := 0x56#8, b := 0x57#8 }, { r := 7#8, g := 8#8, b := 9#8 }]
    mem.fb := [(69117, 0xFF#8), (69118, 0xFF#8), (69119, 0xFF#8)] }

/-- The last pixel of line 143, over old bytes and over none, and a pixel of line 3. -/
theorem witness_EveryPixelLandsAtItsRowMajorTriplet :
    (staleTriplet.Legal ∧ (∃ t, exec (.clock false) staleTriplet = .next t ∧
        decide (t.blk.px.toNat = staleTriplet.blk.px.toNat + 1 ∧
          t.mem.fb = [(69117, 1#8), (69118, 2#8), (69119, 3#8)]) = true) ∧
      80 ≤ staleTriplet.rf.dot.toNat ∧ staleTriplet.rf.dot.toNat < 456) ∧
    (lastPixel.Legal ∧ (∃ t, exec (.clock false) lastPixel = .next t ∧
        decide (t.blk.px.toNat = lastPixel.blk.px.toNat + 1) = true) ∧
      80 ≤ lastPixel.rf.dot.toNat ∧ lastPixel.rf.dot.toNat < 456) ∧
    (midLine.Legal ∧
      ∃ t, exec (.clock false) midLine = .next t ∧ decide (t.blk.px.toNat = 4 + 1) = true) :=
  ⟨⟨legal_lastPixel.congr rfl rfl rfl rfl rfl rfl rfl rfl rfl rfl rfl, nextIs_elim (by decide), by decide, by decide⟩,
    ⟨legal_lastPixel, nextIs_elim (by decide), by decide, by decide⟩, legal_midLine, nextIs_elim (by decide)⟩

theorem witness_ExternalCommandsKeepToTheAccessTable :
    ((Instr.clock true).external = true ∧ ∃ t, exec (.clock true) lineEnd = .next t) ∧
    (Instr.reset.external = true ∧ ∃ t, exec .reset lineEnd = .next t) ∧
    (Instr.rdFrameReady.external = true ∧ ∃ t, exec .rdFrameReady lineEnd = .next t) ∧
    (Instr.rdVBlank.external = true ∧ ∃ t, exec .rdVBlank lineEnd = .next t) ∧
    ((Instr.setPalette 6#4 1#8 2#8 3#8).external = true ∧ ∃ t, exec (.setPalette 6#4 1#8 2#8 3#8) lineEnd = .next t) ∧
    ((Instr.setMonoPref true).external = true ∧ ∃ t, exec (.setMonoPref true) lineEnd = .next t) :=
  ⟨⟨rfl, (nextIs_elim (p := fun _ => true) (by decide)).imp fun _ h => h.1⟩, ⟨rfl, _, rfl⟩, ⟨rfl, _, rfl⟩,
    ⟨rfl, _, rfl⟩, ⟨rfl, _, rfl⟩, rfl, _, rfl⟩

/-- A state that meets the invariant, with commands and host moves waiting. -/
def running : State := { endOfPicture with pending := [.cmd 0x00000001#32, .host (.scx 255#8), .cmd 0x3#32] }

theorem inv_running : running.Inv :=
  ⟨rfl, rfl, rfl, by decide, fun _ =>
    ⟨⟨legal_endOfPicture.position.ly_le, legal_endOfPicture.position.dot_pos, legal_endOfPicture.position.dot_le⟩,
      legal_endOfPicture.px_le, legal_endOfPicture.nsel_le, legal_endOfPicture.npipe_eq,
      legal_endOfPicture.pipe_eq, legal_endOfPicture.mode_eq, legal_endOfPicture.wlc_le, legal_endOfPicture.budget_le,
      legal_endOfPicture.strobes, legal_endOfPicture.cursor_eq, legal_endOfPicture.rows⟩⟩

theorem witness_StepKeepsTheInvariant :
    running.Inv ∧ ∃ t, step running = .next t ∧ decide (t.rf.mode = .vblank) = true :=
  ⟨inv_running, nextIs_elim (by decide)⟩

theorem witness_StepKeepsMemoriesCanonical :
    Mems.wf running.mem = true ∧ ∃ t, step running = .next t ∧ t.blk.frameReady = true :=
  ⟨by decide, nextIs_elim (by decide)⟩

theorem witness_RunsFromALegalStateNeverStop :
    running.Inv ∧ running.awaitReset = false ∧ .host .powerCycle ∉ running.pending := ⟨inv_running, rfl, by decide⟩

theorem witness_ClocksAdvanceThePositionByTheirNumber :
    endOfPicture.Legal ∧ endOfPicture.awaitReset = false ∧ (List.replicate 456 true).length = 456 ∧
    (List.replicate 70224 false).length = 70224 :=
  ⟨legal_endOfPicture, rfl, List.length_replicate, List.length_replicate⟩

/-- One dot before the entry of line 144; a whole frame; a list that stops short. -/
theorem witness_AFrameOfClocksSetsFrameReadyOnce :
    (endOfPicture.Legal ∧ endOfPicture.awaitReset = false) ∧ endOfPicture.position = 65663 ∧
    (List.replicate 70224 false).length = 70224 ∧
    (lineDone.Legal ∧ lineDone.awaitReset = false ∧ lineDone.position + [true, false].length < 65664) :=
  ⟨⟨legal_endOfPicture, rfl⟩, by decide, List.length_replicate, legal_lineDone, rfl, by decide⟩

/-- The first and the last visible line. -/
theorem witness_EveryVisibleLineEmitsExactly160Pixels :
    ((afterScan 0#8 0#15).Legal ∧ (afterScan 0#8 0#15).awaitReset = false ∧ (afterScan 0#8 0#15).rf.ly.toNat < 144 ∧
      (afterScan 0#8 0#15).rf.dot.toNat = 80) ∧
    ((afterScan 143#8 22880#15).Legal ∧ (afterScan 143#8 22880#15).awaitReset = false ∧
      (afterScan 143#8 22880#15).rf.ly.toNat < 144 ∧ (afterScan 143#8 22880#15).rf.dot.toNat = 80) ∧
    (List.replicate 376 false).length = 376 :=
  ⟨⟨legal_afterScan_first, rfl, by decide, by decide⟩, ⟨legal_afterScan_last, rfl, by decide, by decide⟩,
    List.length_replicate⟩

/-- A state of R23 that no run reaches: PixelTransfer with 160 pixels out and the cursor past the buffer. CLOCK completes. -/
def pastBoth : State := small 5#8 300#9 .xfer 160#8 23041#15 0#8

/-- A state outside R23: line 255, dot 511, eleven sprites in both sets. CLOCK completes. -/
def outsideRule23 : State :=
  { small 255#8 511#9 .hblank 255#8 0#15 0#8 with blk.nsel := 11#4, blk.npipe := 11#4 }

/-- In R23 with the cursor past the buffer; outside R23; the stop before RESET; the stop at a cursor of 23040 in mid-line
and of RENDER_PIXEL; and a CLOCK at dot 456 with the cursor at 23040, which starts a line and completes. -/
theorem witness_EveryOperationIsTotal :
    (pastBoth.awaitReset = false ∧ pastBoth.blk.cursor.toNat ≠ 23040 ∧
      ∃ t, exec (.clock false) pastBoth = .next t ∧
        decide (t.blk.px = 161#8 ∧ t.blk.cursor = 23042#15 ∧ t.mem.fb = []) = true) ∧
    (outsideRule23.awaitReset = false ∧ outsideRule23.blk.cursor.toNat ≠ 23040 ∧
      ∃ t, exec (.clock false) outsideRule23 = .next t ∧ decide (t.rf.dot = 0#9) = true) ∧
    exec .rdVBlank { State.reset with awaitReset := true } = .fault .beforeReset ∧
    exec (.clock false) { lastPixel with blk.cursor := 23040#15 } = .fault .cursorOverrun ∧
    exec (.renderPixel 0#2 .bg false false) endOfPicture = .fault .cursorOverrun ∧
    (endOfPicture.rf.dot.toNat = 456 ∧ endOfPicture.blk.cursor.toNat = 23040 ∧
      ∃ t, exec (.clock false) endOfPicture = .next t ∧ decide (t.blk.cursor = 0#15) = true) :=
  ⟨⟨rfl, by decide, nextIs_elim (by decide)⟩, ⟨rfl, by decide, nextIs_elim (by decide)⟩, rfl, rfl, rfl,
    by decide, by decide, nextIs_elim (by decide)⟩

end Sys2Proof.Tests
end

section
/-! Runs of the machine. What every external operation keeps, what every host move keeps, what one step keeps, and
that from a state which meets the invariant no number of steps stops (R250, R276). -/

namespace Sys2Proof.Machine

/-! ### What an external operation keeps -/

/-- The transfer dot keeps the memories canonical, past the end of the frame buffer too, where it writes no byte. -/
theorem transferDot_mem_wf {s t : State} (hm : Mems.wf s.mem = true) (ht : s.transferDot = .next t) :
    Mems.wf t.mem = true := by
  obtain ⟨hframe, ⟨hfb, -⟩ | ⟨-, -, -, -, ⟨hcursor, hmem⟩ | ⟨-, hmem⟩⟩⟩ := transferDot_frame ht
  · have hmem : t.mem = s.mem := by rw [hframe, hfb]
    rwa [hmem]
  · rw [hmem]
    exact putTriplet_wf _ hm hcursor
  · rwa [hmem]

/-- CLOCK writes the Register File, the block, the frame buffer, `rdata` and the number of the next free choice. -/
theorem execClock_frame {s t : State} {dma : Bool} (ht : exec (.clock dma) s = .next t) :
    t = { s with rf := t.rf, blk := t.blk, mem.fb := t.mem.fb, rdata := false, draws := t.draws } := by
  obtain ⟨-, u, hu, rfl⟩ := execClock_eq_next.1 ht
  have hdot := (transferDot_frame hu).1
  rw [beforeTransfer_frame s dma] at hdot
  rw [hdot]
  rfl

/-- An external operation leaves the wires, what is pending, the environment and the power-on count, and makes no
machine await a RESET. -/
theorem exec_external_frame {i : Instr} (hx : i.external = true) {s t : State} (ht : exec i s = .next t) :
    t = { s with
      rf := t.rf
      blk := t.blk
      mem := t.mem
      rdata := t.rdata
      awaitReset := t.awaitReset
      draws := t.draws } ∧
    (s.awaitReset = false → t.awaitReset = false) := by
  cases i with
  | clock dma =>
    have hframe := execClock_frame ht
    refine ⟨?_, fun ha => ?_⟩
    · rw [hframe]
    · rw [hframe]
      exact ha
  | reset => cases ht; exact ⟨rfl, fun _ => rfl⟩
  | rdFrameReady | rdVBlank =>
    obtain ⟨-, h⟩ := afterReset_eq_next.1 ht
    cases h; exact ⟨rfl, id⟩
  | setPalette | setMonoPref => cases ht; exact ⟨rfl, id⟩
  | scan | loadSprites | pipeClock | windowVisible | renderPixel => cases hx

/-- An external operation keeps the memories canonical. -/
theorem exec_external_mem_wf {i : Instr} (hx : i.external = true) {s t : State} (hm : Mems.wf s.mem = true)
    (ht : exec i s = .next t) : Mems.wf t.mem = true := by
  cases i with
  | clock dma =>
    obtain ⟨-, u, hu, rfl⟩ := execClock_eq_next.1 ht
    have hbefore : Mems.wf (s.beforeTransfer dma).mem = true := by rwa [beforeTransfer_frame]
    exact transferDot_mem_wf (t := u) hbefore hu
  | rdFrameReady | rdVBlank =>
    obtain ⟨-, h⟩ := afterReset_eq_next.1 ht
    cases h; exact hm
  | reset | setPalette | setMonoPref => cases ht; exact hm
  | scan | loadSprites | pipeClock | windowVisible | renderPixel => cases hx

/-- RESET leads to a legal state from any state at all. -/
theorem execReset_legal {s t : State} (ht : exec .reset s = .next t) : t.Legal := by
  cases ht
  exact {
    position := ⟨by simp, by simp, by simp⟩
    px_le := by simp
    nsel_le := by simp
    npipe_eq := rfl
    pipe_eq := fun j hj => absurd hj (by simp)
    mode_eq := by simp [modeOf]
    wlc_le := by simp
    budget_le := by simp
    strobes := fun _ hdot => absurd hdot (by simp)
    cursor_eq := by simp [cursorAt]
    rows := fun _ hdot => absurd hdot (by simp) }

/-- CLOCK completes from a legal state. -/
theorem execClock_completes {s : State} (h : s.Legal) (ha : s.awaitReset = false) (dma : Bool) :
    ∃ t, exec (.clock dma) s = .next t := by
  obtain ⟨u, hu⟩ := transferDot_completes (beforeTransfer_ready h dma)
  exact ⟨_, execClock_of_transferDot ha hu⟩

/-- CLOCK leads from a legal state to a legal state. -/
theorem execClock_legal {s t : State} {dma : Bool} (h : s.Legal) (ht : exec (.clock dma) s = .next t) : t.Legal := by
  obtain ⟨-, u, hu, rfl⟩ := execClock_eq_next.1 ht
  apply (transferDot_legal (beforeTransfer_ready h dma) hu).congr <;> rfl

/-- An external operation on a legal state completes. -/
theorem exec_external_completes {i : Instr} (hx : i.external = true) {s : State} (h : s.Legal)
    (ha : s.awaitReset = false) : ∃ t, exec i s = .next t := by
  cases i with
  | clock dma => exact execClock_completes h ha dma
  | rdFrameReady | rdVBlank => exact ⟨_, afterReset_ready ha _⟩
  | reset | setPalette | setMonoPref => exact ⟨_, rfl⟩
  | scan | loadSprites | pipeClock | windowVisible | renderPixel => cases hx

/-- An external operation keeps a machine legal, and RESET makes one that awaits it legal (R274). -/
theorem exec_external_legal {i : Instr} (hx : i.external = true) {s t : State} (h : s.awaitReset = false → s.Legal)
    (ht : exec i s = .next t) (ha : t.awaitReset = false) : t.Legal := by
  cases i with
  | clock dma => exact execClock_legal (h (execClock_eq_next.1 ht).1) ht
  | reset => exact execReset_legal ht
  | rdFrameReady | rdVBlank =>
    obtain ⟨has, h2⟩ := afterReset_eq_next.1 ht
    cases h2; apply (h has).congr <;> rfl
  | setPalette | setMonoPref => cases ht; apply (h ha).congr <;> rfl
  | scan | loadSprites | pipeClock | windowVisible | renderPixel => cases hx

/-- An external operation keeps the invariant. -/
theorem exec_external_inv {i : Instr} (hx : i.external = true) {s t : State} (h : s.Inv) (ht : exec i s = .next t) :
    t.Inv := by
  have hframe := (exec_external_frame hx ht).1
  exact {
    strobe_none := by rw [hframe]; exact h.strobe_none
    pix_none := by rw [hframe]; exact h.pix_none
    win_false := by rw [hframe]; exact h.win_false
    mem_wf := exec_external_mem_wf hx h.mem_wf ht
    legal := exec_external_legal hx h.legal ht }

/-! ### What a host move keeps -/

/-- Every host move leaves the wires and what is pending. -/
theorem hostMove_frame (m : HostMove) (s : State) :
    hostMove m s = { s with
      rf := (hostMove m s).rf
      blk := (hostMove m s).blk
      env := (hostMove m s).env
      mem := (hostMove m s).mem
      awaitReset := (hostMove m s).awaitReset
      epoch := (hostMove m s).epoch } := by
  cases m <;> rfl

/-- Every host move but the power cycle leaves what the block owns (R277), and does not make the machine await a
RESET. -/
theorem hostMove_frame_of_ne_powerCycle {m : HostMove} (hm : m ≠ .powerCycle) (s : State) :
    hostMove m s = { s with
      rf := { (hostMove m s).rf with ly := s.rf.ly, dot := s.rf.dot, mode := s.rf.mode, coin := s.rf.coin }
      env := (hostMove m s).env
      mem := { (hostMove m s).mem with fb := s.mem.fb } } := by
  cases m with
  | powerCycle => exact absurd rfl hm
  | _ => rfl

/-- A write at an address of the space keeps the canonical form and stays inside the space. -/
theorem Memory.put_canonical {m : Memory} {size : Nat} (a : Fin size) (v : Byte)
    (h : Memory.wf m = true ∧ Memory.inside size m = true) :
    Memory.wf (Memory.put m a v) = true ∧ Memory.inside size (Memory.put m a v) = true :=
  ⟨Memory.put_wf a v h.1, Memory.put_inside v h.2 a.isLt⟩

/-- A host move writes inside its memory's space, and the power cycle empties all four. -/
theorem hostMove_mem_wf (m : HostMove) {s : State} (hm : Mems.wf s.mem = true) :
    Mems.wf (hostMove m s).mem = true := by
  obtain ⟨hoam, hvram0, hvram1, hfb⟩ := (Mems.wf_iff s.mem).1 hm
  cases m with
  | oam a v => exact (Mems.wf_iff _).2 ⟨Memory.put_canonical a v hoam, hvram0, hvram1, hfb⟩
  | vram0 a v => exact (Mems.wf_iff _).2 ⟨hoam, Memory.put_canonical a v hvram0, hvram1, hfb⟩
  | vram1 a v => exact (Mems.wf_iff _).2 ⟨hoam, hvram0, Memory.put_canonical a v hvram1, hfb⟩
  | powerCycle => rfl
  | _ => exact hm

/-- Legality is the block's own: a host move with no power cycle keeps it. -/
theorem hostMove_legal {m : HostMove} (hm : m ≠ .powerCycle) {s : State} (h : s.Legal) : (hostMove m s).Legal := by
  rw [hostMove_frame_of_ne_powerCycle hm]
  apply h.congr <;> rfl

/-- A host move keeps the invariant: the power cycle leaves a machine that awaits RESET. -/
theorem hostMove_inv (m : HostMove) {s : State} (h : s.Inv) : (hostMove m s).Inv where
  strobe_none := by rw [hostMove_frame]; exact h.strobe_none
  pix_none := by rw [hostMove_frame]; exact h.pix_none
  win_false := by rw [hostMove_frame]; exact h.win_false
  mem_wf := hostMove_mem_wf m h.mem_wf
  legal := by
    by_cases hm : m = .powerCycle
    · subst hm
      intro ha
      cases ha
    · intro ha
      rw [hostMove_frame_of_ne_powerCycle hm] at ha
      exact hostMove_legal hm (h.legal ha)

/-! ### What a step keeps -/

/-- The invariant says nothing of what is pending or of `rdata`: both can change under it. -/
theorem State.Inv.present {s : State} (h : s.Inv) (rest : List Input) (v : Bool) :
    State.Inv { s with pending := rest, rdata := v } where
  strobe_none := h.strobe_none
  pix_none := h.pix_none
  win_false := h.win_false
  mem_wf := h.mem_wf
  legal ha := by apply (h.legal ha).congr <;> rfl

/-- One step keeps the invariant, whatever it takes. -/
theorem step_inv {s t : State} (h : s.Inv) (ht : step s = .next t) : t.Inv := by
  obtain ⟨-, hs⟩ | ⟨w, rest, i, -, -, hx, hs⟩ | ⟨w, rest, -, hs⟩ | ⟨m, rest, -, hs⟩ := step_cases h.strobe_none <;>
    rw [hs] at ht
  · cases ht
    exact h
  · exact exec_external_inv hx (h.present rest s.rdata) ht
  · cases ht
    exact h.present rest false
  · cases ht
    exact hostMove_inv m (h.present rest s.rdata)

/-- A machine that runs: it meets the invariant, it awaits no RESET, and the outside world presents no power cycle. -/
structure State.Running (s : State) : Prop where
  inv           : s.Inv
  ready         : s.awaitReset = false
  no_powerCycle : .host .powerCycle ∉ s.pending

/-- A step of a running machine completes, awaits no RESET, and takes at most the head of what is pending. -/
theorem State.Running.step_completes {s : State} (h : s.Running) :
    ∃ t, step s = .next t ∧ t.awaitReset = false ∧ t.pending ⊆ s.pending := by
  obtain ⟨-, hs⟩ | ⟨w, rest, i, hp, -, hx, hs⟩ | ⟨w, rest, hp, hs⟩ | ⟨m, rest, hp, hs⟩ :=
    step_cases h.inv.strobe_none
  · exact ⟨s, hs, h.ready, List.Subset.refl _⟩
  · have hi := h.inv.present rest s.rdata
    obtain ⟨t, ht⟩ := exec_external_completes hx (hi.legal h.ready) h.ready
    obtain ⟨hframe, hready⟩ := exec_external_frame hx ht
    refine ⟨t, hs.trans ht, hready h.ready, ?_⟩
    rw [hframe, hp]
    exact List.subset_cons_self _ _
  · refine ⟨_, hs, h.ready, ?_⟩
    rw [hp]
    exact List.subset_cons_self _ _
  · have hm : m ≠ .powerCycle := by
      rintro rfl
      exact h.no_powerCycle (by simp [hp])
    refine ⟨_, hs, ?_⟩
    rw [hostMove_frame_of_ne_powerCycle hm, hp]
    exact ⟨h.ready, List.subset_cons_self _ _⟩

/-- A running machine steps, and goes on running. -/
theorem State.Running.steps_to_running {s : State} (h : s.Running) : ∃ t, step s = .next t ∧ t.Running := by
  obtain ⟨t, ht, hready, hpending⟩ := h.step_completes
  exact ⟨t, ht, step_inv h.inv ht, hready, fun hmem => h.no_powerCycle (hpending hmem)⟩

/-! ### Runs -/

/-- A run whose first step completes goes on from the state that step leaves. -/
theorem core_run_succ {s t : State} (ht : step s = .next t) (n : Nat) :
    Sys2Proof.core.run (n + 1) s = Sys2Proof.core.run n t := by
  have hstep : Sys2Proof.core.step s = .next t := ht
  simp only [Host.Core.run, hstep]

/-- What every step completes from and keeps, every run completes from and keeps. -/
theorem core_run_keeps {P : State → Prop} (hstep : ∀ s, P s → ∃ t, step s = .next t ∧ P t) (n : Nat) {s : State}
    (hs : P s) : ∃ t : State, Sys2Proof.core.run n s = .next t ∧ P t := by
  induction n generalizing s with
  | zero => exact ⟨s, rfl, hs⟩
  | succ n ih =>
    obtain ⟨u, hu, hPu⟩ := hstep s hs
    obtain ⟨t, ht, hPt⟩ := ih hPu
    exact ⟨t, (core_run_succ hu n).trans ht, hPt⟩

/-- Settles O53, by induction on the number of steps, with `State.Running` as the predicate that each step keeps. -/
theorem runsFromALegalStateNeverStop : Obligations.RunsFromALegalStateNeverStop := by
  intro n s hinv hready hpending
  obtain ⟨t, ht, hrunning⟩ := core_run_keeps (fun _ => State.Running.steps_to_running) n ⟨hinv, hready, hpending⟩
  exact ⟨t, ht, hrunning.inv, hrunning.ready⟩

end Sys2Proof.Machine
end

section
/-! The state and who writes it (spec/10_state.md): the invariant, CLOCK along the position of R25, the access table of
R22 for the external commands and the host's moves, and the bits of the status register. -/

namespace Sys2Proof.Machine

/-! ### The invariant -/

/-- Settles O51: `step_inv` is the invariant's step lemma. -/
theorem stepKeepsTheInvariant : Obligations.StepKeepsTheInvariant := fun _ _ => step_inv

/-- Settles O50: RESET leaves the state after reset as it is, and RESET leads to a legal state. -/
theorem resetStateMeetsTheInvariant : Obligations.ResetStateMeetsTheInvariant where
  strobe_none := rfl
  pix_none := rfl
  win_false := rfl
  mem_wf := rfl
  legal _ := execReset_legal (s := State.reset) rfl

/-- Settles O15: the values are those of the definitions, the shade table's entry by entry. -/
theorem resetStateHoldsTheValuesOfRule61 : Obligations.ResetStateHoldsTheValuesOfRule61 := by
  have hshade : ∀ k : Fin 4, State.reset.blk.shadeRgb[k] = Config.shadeRgbDefault k
    | 0 | 1 | 2 | 3 => rfl
  exact ⟨rfl, rfl, rfl, rfl, rfl, rfl, rfl, rfl, rfl, rfl, rfl, rfl, rfl, hshade, rfl, fun _ => ⟨rfl, rfl, rfl, rfl⟩⟩

/-! ### CLOCK along the position -/

/-- The position is below 70224, and it determines the scanline index and the dot (R25). -/
theorem State.PositionLegal.position_spec {s : State} (h : s.PositionLegal) :
    s.position < 70224 ∧ s.rf.ly.toNat = s.position / 456 ∧ s.rf.dot.toNat = s.position % 456 + 1 := by
  obtain ⟨hly, hpos, hdot⟩ := h
  unfold State.position
  omega

/-- Away from a dot wrap CLOCK counts the dot and leaves the scanline index. -/
theorem execClock_dot_ly {s t : State} {dma : Bool} (hdot : s.rf.dot.toNat < 456)
    (ht : exec (.clock dma) s = .next t) : t.rf.dot.toNat = s.rf.dot.toNat + 1 ∧ t.rf.ly = s.rf.ly := by
  obtain ⟨hd, hl⟩ := (advanceDot_position s).2 (by omega)
  rw [execClock_rf ht]
  refine ⟨?_, hl⟩
  simp only [hd, BitVec.toNat_ofNat]
  omega

/-- At a dot wrap CLOCK goes to dot 1 of the next line, which after line 153 is line 0. -/
theorem execClock_dot_ly_wrap {s t : State} {dma : Bool} (hly : s.rf.ly.toNat ≤ 153) (hdot : s.rf.dot.toNat = 456)
    (ht : exec (.clock dma) s = .next t) :
    t.rf.dot.toNat = 1 ∧ t.rf.ly.toNat = if s.rf.ly.toNat = 153 then 0 else s.rf.ly.toNat + 1 := by
  obtain ⟨hd, hl⟩ := (advanceDot_position s).1 hdot
  rw [execClock_rf ht]
  refine ⟨by simp [hd], ?_⟩
  simp only [hl, nextLineIndex_toNat hly]
  unfold nextLineIndex
  split_ifs <;> omega

/-- CLOCK moves the linear position up by one, modulo a frame. -/
theorem execClock_position {s t : State} {dma : Bool} (h : s.PositionLegal) (ht : exec (.clock dma) s = .next t) :
    t.position = (s.position + 1) % 70224 := by
  obtain ⟨hly, hpos, hle⟩ := h
  unfold State.position
  by_cases hdot : s.rf.dot.toNat = 456
  · obtain ⟨hd, hl⟩ := execClock_dot_ly_wrap hly hdot ht
    split_ifs at hl <;> omega
  · obtain ⟨hd, hl⟩ := execClock_dot_ly (by omega) ht
    rw [hl]
    omega

/-- Settles O38: completion is `execClock_completes`, and the counters move by the case of the dot wrap. -/
theorem clockCompletesAndAdvancesOneDot : Obligations.ClockCompletesAndAdvancesOneDot := by
  intro s dma h ha
  obtain ⟨t, ht⟩ := execClock_completes h ha dma
  refine ⟨t, ht, ?_, fun hdot => execClock_dot_ly hdot ht,
    fun hdot => execClock_dot_ly_wrap h.position.ly_le hdot ht, execClock_position h.position ht⟩
  rw [execClock_frame ht]

/-- A list of CLOCKs completes from a legal state in a legal state, and moves the position up by its length. -/
theorem clocks_legal_position (dmas : List Bool) {s : State} (h : s.Legal) (ha : s.awaitReset = false) :
    ∃ t, clocks dmas s = .next t ∧ t.Legal ∧ t.awaitReset = false ∧
      t.position = (s.position + dmas.length) % 70224 := by
  induction dmas generalizing s with
  | nil =>
    refine ⟨s, rfl, h, ha, ?_⟩
    rw [List.length_nil, Nat.add_zero, Nat.mod_eq_of_lt h.position.position_spec.1]
  | cons dma rest ih =>
    obtain ⟨u, hu⟩ := execClock_completes h ha dma
    have hau : u.awaitReset = false := (exec_external_frame rfl hu).2 ha
    obtain ⟨t, ht, hleg, hat, hpos⟩ := ih (execClock_legal h hu) hau
    refine ⟨t, andThen_eq_next.2 ⟨u, hu, ht⟩, hleg, hat, ?_⟩
    rw [hpos, execClock_position h.position hu, List.length_cons]
    omega

/-- Settles O54, by induction on the list, and the two periods because the position determines the line and the dot. -/
theorem clocksAdvanceThePositionByTheirNumber : Obligations.ClocksAdvanceThePositionByTheirNumber := by
  intro dmas s h ha
  obtain ⟨t, ht, hleg, hat, hpos⟩ := clocks_legal_position dmas h ha
  obtain ⟨hs, hsly, hsdot⟩ := h.position.position_spec
  obtain ⟨-, htly, htdot⟩ := hleg.position.position_spec
  refine ⟨t, ht, hleg, hat, hpos, fun hlen => ?_, fun hlen => ?_⟩ <;> rw [hlen] at hpos
  · exact ⟨BitVec.eq_of_toNat_eq (by omega), by omega⟩
  · exact ⟨BitVec.eq_of_toNat_eq (by omega), BitVec.eq_of_toNat_eq (by omega)⟩

/-! ### What CLOCK writes -/

/-- Where the block-owned registers alone differ, with the frame buffer, the two states hold the same host-owned
elements (R20, R22). -/
theorem SameHostOwned.of_frame {s t : State}
    (hrf : t.rf = { s.rf with ly := t.rf.ly, dot := t.rf.dot, mode := t.rf.mode, coin := t.rf.coin })
    (henv : t.env = s.env) (hmem : t.mem = { s.mem with fb := t.mem.fb }) : SameHostOwned s t := by
  constructor
  case env => exact henv
  case oam | vram0 | vram1 => rw [hmem]
  all_goals rw [hrf]

/-- Lines 1 to 28 keep the shade table and the monochrome preference. -/
theorem beforeTransfer_shadeRgb_monoPref (s : State) (dma : Bool) :
    (s.beforeTransfer dma).blk.shadeRgb = s.blk.shadeRgb ∧ (s.beforeTransfer dma).blk.monoPref = s.blk.monoPref := by
  obtain ⟨-, hb⟩ | ⟨-, -, hb⟩ | ⟨-, -, hb⟩ := beforeTransfer_cases s dma <;> rw [hb]
  · rw [advanceDot_frame]
    exact ⟨rfl, rfl⟩
  · obtain ⟨pipe, hscan, -⟩ := opScan_blk dma s
    simp only [State.recomputeCoin_blk, hscan, and_self]
  · exact ⟨rfl, rfl⟩

/-- CLOCK keeps the shade table and the monochrome preference. -/
theorem execClock_shadeRgb_monoPref {s t : State} {dma : Bool} (ht : exec (.clock dma) s = .next t) :
    t.blk.shadeRgb = s.blk.shadeRgb ∧ t.blk.monoPref = s.blk.monoPref := by
  obtain ⟨-, u, hu, rfl⟩ := execClock_eq_next.1 ht
  rw [State.answer_blk, (transferDot_frame hu).1]
  exact beforeTransfer_shadeRgb_monoPref s dma

/-- CLOCK leaves the frame buffer whole, or advances the cursor and writes at most the triplet it pointed at. -/
theorem execClock_fb {s t : State} {dma : Bool} (ht : exec (.clock dma) s = .next t) :
    t.mem.fb = s.mem.fb ∨
    (t.blk.cursor = s.blk.cursor + 1#15 ∧
      ∀ a, (a < 3 * s.blk.cursor.toNat ∨ 3 * s.blk.cursor.toNat + 2 < a) →
        Memory.byteAt t.mem.fb a = Memory.byteAt s.mem.fb a) := by
  obtain ⟨-, u, hu, rfl⟩ := execClock_eq_next.1 ht
  have hmem : (s.beforeTransfer dma).mem = s.mem := by rw [beforeTransfer_frame]
  simp only [State.answer_mem, State.answer_blk]
  obtain ⟨-, ⟨hfb, -⟩ | ⟨hmode, hcursor, -, -, ⟨-, hput⟩ | ⟨-, hkeep⟩⟩⟩ := transferDot_frame hu
  · left
    rw [hfb, hmem]
  · right
    obtain ⟨-, hc⟩ := beforeTransfer_xfer hmode
    refine ⟨by rw [hcursor, hc], fun a ha => ?_⟩
    rw [hput, putTriplet_byteAt, State.tripletAddr, hc, if_neg (by omega), if_neg (by omega), if_neg (by omega), hmem]
  · left
    rw [hkeep, hmem]

/-! ### What an external command writes -/

/-- No external command writes anything the host owns (R22, R256). -/
theorem exec_external_sameHostOwned {i : Instr} (hx : i.external = true) {s t : State} (ht : exec i s = .next t) :
    SameHostOwned s t := by
  cases i with
  | clock dma =>
    have hframe := execClock_frame ht
    have hrf : t.rf = { s.rf with ly := t.rf.ly, dot := t.rf.dot, mode := t.rf.mode, coin := t.rf.coin } := by
      rw [execClock_rf ht]
    exact .of_frame hrf (by rw [hframe]) (by rw [hframe])
  | rdFrameReady | rdVBlank =>
    obtain ⟨-, h⟩ := afterReset_eq_next.1 ht
    cases h; exact .of_frame rfl rfl rfl
  | reset | setPalette | setMonoPref => cases ht; exact .of_frame rfl rfl rfl
  | scan | loadSprites | pipeClock | windowVisible | renderPixel => cases hx

/-- No external command writes what is the model's own. -/
theorem exec_external_sameModelOwned {i : Instr} (hx : i.external = true) {s t : State} (ht : exec i s = .next t) :
    SameModelOwned s t ∧ t.pixWire = s.pixWire ∧ t.winWire = s.winWire := by
  rw [(exec_external_frame hx ht).1]
  exact ⟨⟨rfl, rfl, rfl⟩, rfl, rfl⟩

/-- CLOCK apart, no external command writes the coincidence bit or the frame buffer, or makes a free choice. -/
theorem exec_external_keeps_of_ne_clock {i : Instr} (hx : i.external = true) (hc : ∀ dma, i ≠ .clock dma) {s t : State}
    (ht : exec i s = .next t) : t.rf.coin = s.rf.coin ∧ t.mem.fb = s.mem.fb ∧ t.draws = s.draws := by
  cases i with
  | clock dma => exact absurd rfl (hc dma)
  | rdFrameReady | rdVBlank =>
    obtain ⟨-, h⟩ := afterReset_eq_next.1 ht
    cases h; exact ⟨rfl, rfl, rfl⟩
  | reset | setPalette | setMonoPref => cases ht; exact ⟨rfl, rfl, rfl⟩
  | scan | loadSprites | pipeClock | windowVisible | renderPixel => cases hx

/-- CLOCK and RESET apart, an external command writes no more than the two latches, the shade table, the preference and
`rdata`. -/
theorem exec_external_frame_of_ne_clock_reset {i : Instr} (hx : i.external = true) (hc : ∀ dma, i ≠ .clock dma)
    (hr : i ≠ .reset) {s t : State} (ht : exec i s = .next t) :
    t = { s with
      blk.frameReady := t.blk.frameReady
      blk.vblankEntered := t.blk.vblankEntered
      blk.shadeRgb := t.blk.shadeRgb
      blk.monoPref := t.blk.monoPref
      rdata := t.rdata } := by
  cases i with
  | clock dma => exact absurd rfl (hc dma)
  | reset => exact absurd rfl hr
  | rdFrameReady | rdVBlank =>
    obtain ⟨-, h⟩ := afterReset_eq_next.1 ht
    cases h; rfl
  | setPalette | setMonoPref => cases ht; rfl
  | scan | loadSprites | pipeClock | windowVisible | renderPixel => cases hx

/-- Settles O46: the frame of CLOCK, with the frame buffer by whether the cursor advances. -/
theorem clockWritesNoMemoryButTheTripletAtTheCursor : Obligations.ClockWritesNoMemoryButTheTripletAtTheCursor := by
  intro s t dma ht
  have hhost := exec_external_sameHostOwned rfl ht
  obtain ⟨hmodel, hpix, hwin⟩ := exec_external_sameModelOwned rfl ht
  obtain ⟨hshade, hpref⟩ := execClock_shadeRgb_monoPref ht
  have hawait : t.awaitReset = s.awaitReset := by rw [execClock_frame ht]
  have hrdata : t.rdata = false := by rw [execClock_frame ht]
  refine ⟨hhost, hmodel, hshade, hpref, hpix, hwin, hawait, hrdata, ?_⟩
  obtain hfb | ⟨hcursor, hbytes⟩ := execClock_fb ht
  · exact ⟨fun _ _ => by rw [hfb], fun _ => hfb⟩
  · exact ⟨hbytes, fun hne => absurd hcursor hne⟩

/-- Settles O49: the rows of the access table (R22) that several commands share are the lemmas above, and the latches, the
shade table, the preference and `rdata` go by the command. -/
theorem externalCommandsKeepToTheAccessTable : Obligations.ExternalCommandsKeepToTheAccessTable := by
  intro i s t hx ht
  obtain ⟨hmodel, hpix, hwin⟩ := exec_external_sameModelOwned hx ht
  refine ⟨exec_external_sameHostOwned hx ht, hmodel, hpix, hwin,
    fun hc => exec_external_keeps_of_ne_clock hx hc ht, fun hc hr => ?_, ?_⟩
  · rw [exec_external_frame_of_ne_clock_reset hx hc hr ht]
    exact ⟨rfl, rfl, rfl, rfl, rfl, rfl, rfl, rfl, rfl, rfl, rfl, rfl⟩
  cases i with
  | clock dma =>
    obtain ⟨hshade, hpref⟩ := execClock_shadeRgb_monoPref ht
    have hrdata : t.rdata = false := by rw [execClock_frame ht]
    exact ⟨fun hc => absurd rfl (hc dma), fun hc => absurd rfl (hc dma), fun _ => hshade, fun _ => hpref,
      fun _ _ => hrdata⟩
  | reset =>
    cases ht
    exact ⟨fun _ hr => absurd rfl hr, fun _ hr => absurd rfl hr, fun _ => rfl, fun _ => rfl, fun _ _ => rfl⟩
  | rdFrameReady =>
    obtain ⟨-, h⟩ := afterReset_eq_next.1 ht
    cases h
    exact ⟨fun _ _ hf => absurd rfl hf, fun _ _ _ => rfl, fun _ => rfl, fun _ => rfl, fun hf => absurd rfl hf⟩
  | rdVBlank =>
    obtain ⟨-, h⟩ := afterReset_eq_next.1 ht
    cases h
    exact ⟨fun _ _ _ => rfl, fun _ _ hv => absurd rfl hv, fun _ => rfl, fun _ => rfl, fun _ hv => absurd rfl hv⟩
  | setPalette idx4 r g b =>
    cases ht
    exact ⟨fun _ _ _ => rfl, fun _ _ _ => rfl, fun hp => absurd rfl (hp idx4 r g b), fun _ => rfl, fun _ _ => rfl⟩
  | setMonoPref pref =>
    cases ht
    exact ⟨fun _ _ _ => rfl, fun _ _ _ => rfl, fun _ => rfl, fun hp => absurd rfl (hp pref), fun _ _ => rfl⟩
  | scan | loadSprites | pipeClock | windowVisible | renderPixel => cases hx

/-! ### The host's moves -/

/-- With no strobe waiting, a step takes the host move at the head of what is pending. -/
theorem step_host {s : State} {m : HostMove} {rest : List Input} (hs : s.strobe = none)
    (hp : s.pending = .host m :: rest) : step s = .next (hostMove m { s with pending := rest }) := by
  simp [step, fetch, hs, hp]

/-- Settles O10: `hostMove_frame_of_ne_powerCycle` names all that such a move writes. -/
theorem hostMovesLeaveBlockOwnedStateAlone : Obligations.HostMovesLeaveBlockOwnedStateAlone := by
  intro s m rest hs hp hm
  refine ⟨_, step_host hs hp, ?_⟩
  rw [hostMove_frame_of_ne_powerCycle hm]
  exact ⟨rfl, rfl, rfl, rfl, rfl, rfl, rfl, rfl, rfl, rfl, hs, rfl, rfl, rfl⟩

/-! ### The status register -/

/-- Bit `i` of `RF.STAT`: the mode's code in 1:0, the coincidence bit in 2, the host's five bits from 3 on (R32). -/
theorem RegFile.stat_getLsbD (rf : RegFile) (i : Nat) : rf.stat.getLsbD i =
    if i < 2 then rf.mode.code.getLsbD i
    else if i = 2 then rf.coin
    else rf.statHi.getLsbD (i - 3) := by
  have houter : rf.stat.getLsbD i =
      if i < 2 then rf.mode.code.getLsbD i else (rf.statHi ++ BitVec.ofBool rf.coin).getLsbD (i - 2) :=
    BitVec.getLsbD_append
  rw [houter, BitVec.getLsbD_append, BitVec.getLsbD_ofBool, Nat.sub_sub]
  split_ifs with hmode hlow hcoin hcoin
  · rfl
  · subst hcoin; simp
  · omega
  · omega
  · rfl

theorem RegFile.stat_mode (rf : RegFile) : rf.stat.extractLsb' 0 2 = rf.mode.code := by
  ext i hi
  rw [BitVec.getElem_extractLsb', stat_getLsbD, Nat.zero_add, if_pos hi, BitVec.getLsbD_eq_getElem hi]

theorem RegFile.stat_coin (rf : RegFile) : rf.stat.getLsbD 2 = rf.coin := rf.stat_getLsbD 2

theorem RegFile.stat_statHi (rf : RegFile) : rf.stat.extractLsb' 3 5 = rf.statHi := by
  ext i hi
  rw [BitVec.getElem_extractLsb', stat_getLsbD, if_neg (by omega), if_neg (by omega), Nat.add_sub_cancel_left,
    BitVec.getLsbD_eq_getElem hi]

/-- A write to the host's five bits leaves the block's three (R32, R43). -/
theorem RegFile.stat_block_of_statHi (rf : RegFile) (v : BitVec 5) :
    { rf with statHi := v }.stat.extractLsb' 0 3 = rf.stat.extractLsb' 0 3 := by
  ext i hi
  simp only [BitVec.getElem_extractLsb', stat_getLsbD, Nat.zero_add]
  split_ifs with hmode hcoin
  · rfl
  · rfl
  · omega

/-- Settles O57: the fields of `RegFile.stat`, and which of them CLOCK, RESET and the host write. -/
theorem statusRegisterShowsModeCoincidenceAndHostBits :
    Obligations.StatusRegisterShowsModeCoincidenceAndHostBits := by
  refine ⟨fun rf => ?_, fun s t dma ht => ?_, fun s t ht => ?_, fun s v rest hs hp => ⟨_, step_host hs hp, ?_⟩⟩
  · rw [rf.stat_mode]
    exact ⟨congrArg Mode.code, congrArg Mode.code, congrArg Mode.code, congrArg Mode.code, rf.stat_coin, rf.stat_statHi⟩
  · rw [RegFile.stat_statHi, RegFile.stat_statHi, (exec_external_sameHostOwned rfl ht).statHi]
  · cases ht
    simp only [RegFile.stat_statHi, RegFile.stat_coin, RegFile.stat_mode, State.answer_rf, Mode.code, and_self]
  · exact ⟨RegFile.stat_statHi _, s.rf.stat_block_of_statHi v⟩

end Sys2Proof.Machine
end

section
/-! The memories (spec/20_memory.md): every step keeps their canonical form, a host write is what the next read gives, the
block computes no address outside a space, and CLOCK draws in PixelTransfer only. -/

namespace Sys2Proof.Machine

/-! ### What every step keeps -/

/-- Everything a step with a word on the strobe wires can do: run the operation the word names, or ignore the word. -/
theorem step_strobe_cases {s : State} {w : Word} (hs : s.strobe = some w) :
    (∃ i, step s = exec i { s with strobe := none }) ∨ step s = .next { s with strobe := none, rdata := false } := by
  cases hd : decode w with
  | ok i => exact .inl ⟨i, by simp only [step, fetch, hs, fromStrobe, hd]⟩
  | error r => exact .inr (by simp only [step, fetch, hs, fromStrobe, hd, ignoreWord, State.answer])

/-- PIPE_CLOCK writes no memory. -/
theorem opPipeClock_mem (s : State) : (opPipeClock s).2.mem = s.mem := by
  obtain ⟨-, -, h⟩ | ⟨-, h⟩ := opPipeClock_cases s <;> rw [h] <;> rfl

/-- RENDER_PIXEL keeps the memories canonical, past the end of the frame buffer too, where it writes no byte. -/
theorem opRenderPixel_mem_wf {p : Pixel} {s t : State} (hm : Mems.wf s.mem = true) (ht : opRenderPixel p s = .next t) :
    Mems.wf t.mem = true := by
  obtain ⟨hcursor, h⟩ | ⟨-, h⟩ | ⟨-, h⟩ := opRenderPixel_cases p s <;> rw [h] at ht <;> cases ht
  · exact putTriplet_wf _ hm hcursor
  · exact hm

/-- Every operation keeps the memories canonical, an internal one run on its own too. -/
theorem exec_mem_wf {i : Instr} {s t : State} (ht : exec i s = .next t) (hm : Mems.wf s.mem = true) :
    Mems.wf t.mem = true := by
  cases i with
  | clock | reset | rdFrameReady | rdVBlank | setPalette | setMonoPref => exact exec_external_mem_wf rfl hm ht
  | scan | loadSprites | windowVisible => cases ht; exact hm
  | pipeClock => cases ht; rwa [opPipeClock_mem]
  | renderPixel => exact opRenderPixel_mem_wf hm ht

/-- Settles O52: a step runs an operation (`exec_mem_wf`), makes a host move (`hostMove_mem_wf`) or writes no memory. -/
theorem stepKeepsMemoriesCanonical : Obligations.StepKeepsMemoriesCanonical := by
  intro s t hm ht
  cases hstrobe : s.strobe with
  | some w =>
    obtain ⟨i, hs⟩ | hs := step_strobe_cases hstrobe <;> rw [hs] at ht
    · exact exec_mem_wf ht hm
    · cases ht; exact hm
  | none =>
    obtain ⟨-, hs⟩ | ⟨w, rest, i, -, -, -, hs⟩ | ⟨w, rest, -, hs⟩ | ⟨m, rest, -, hs⟩ := step_cases hstrobe <;>
      rw [hs] at ht
    · cases ht; exact hm
    · exact exec_mem_wf ht hm
    · cases ht; exact hm
    · cases ht; exact hostMove_mem_wf m hm

/-! ### The host's writes -/

/-- Reading a memory whose unwritten bytes are `free`: the written address gives the value, every other address reads as
before (R84). -/
theorem Memory.read_put (m : Memory) (a : Nat) (v : Byte) (free : Nat → Byte) :
    (Memory.byteAt (Memory.put m a v) a).getD (free a) = v ∧
    ∀ b, b ≠ a → (Memory.byteAt (Memory.put m a v) b).getD (free b) = (Memory.byteAt m b).getD (free b) :=
  ⟨by rw [Memory.byteAt_put_same, Option.getD_some], fun b hb => by rw [Memory.byteAt_put_ne m v hb]⟩

/-- Settles O11: `Memory.read_put` for each of the host's three memories. -/
theorem hostMemoryWriteIsReadBack : Obligations.HostMemoryWriteIsReadBack :=
  ⟨fun s a v _ hs hp => ⟨_, step_host hs hp, rfl, Memory.read_put s.mem.oam a v (s.unwritten .oam)⟩,
   fun s a v _ hs hp => ⟨_, step_host hs hp, rfl, Memory.read_put s.mem.vram0 a v (s.unwritten .vram0)⟩,
   fun s a v _ hs hp => ⟨_, step_host hs hp, rfl, Memory.read_put s.mem.vram1 a v (s.unwritten .vram1)⟩⟩

/-- Settles O58: the step is the host move (`step_host`), and each of the twelve moves writes its element alone. -/
theorem hostRegisterWriteIsHeld : Obligations.HostRegisterWriteIsHeld := by
  intro s rest hs
  and_intros <;> exact fun _ hp => step_host hs hp

/-! ### The addresses the block computes -/

/-- A map cell of the 256-by-256 plane lies in one of the two maps (R204). -/
theorem mapAddr_bounds (sel : Bool) {bx by' : Nat} (hx : bx < 256) (hy : by' < 256) :
    0x1800 ≤ mapAddr sel bx by' ∧ mapAddr sel bx by' ≤ 0x1FFF := by
  unfold mapAddr mapBase
  split <;> omega

/-- An unsigned tile is one of the first 256 (R203). -/
theorem tileAddr_unsigned_le (t : Byte) : tileAddr true t ≤ 0x0FF0 := by
  have ht := t.isLt
  simp only [tileAddr, if_true]
  omega

/-- A signed tile lies within 128 tiles of `0x1000` (R203). -/
theorem tileAddr_signed_bounds (t : Byte) : 0x0800 ≤ tileAddr false t ∧ tileAddr false t ≤ 0x17F0 := by
  have hlo : -128 ≤ t.toInt := BitVec.le_toInt t
  have hhi : t.toInt < 128 := BitVec.toInt_lt
  simp only [tileAddr, Bool.false_eq_true, if_false]
  omega

/-- The vertical flip keeps a row of the sprite inside its height. -/
theorem flippedRow_lt {rf : RegFile} {e : ObjEntry} (h0 : 0 ≤ shownRow rf e) (hh : shownRow rf e < rf.spriteHeight) :
    flippedRow rf e < rf.spriteHeight := by
  unfold flippedRow
  split <;> omega

/-- The even number of a tile pair is at most 254 (R207). -/
theorem tilePair_le (t : Byte) : (t &&& 0xFE#8).toNat ≤ 254 := by
  rw [BitVec.toNat_and]
  exact Nat.and_le_right

/-- Both bytes of the tile row a sprite shows are tile data below `0x1000` (R87, R207). -/
theorem spriteRowAddr_le {rf : RegFile} {e : ObjEntry} (h0 : 0 ≤ shownRow rf e)
    (hh : shownRow rf e < rf.spriteHeight) : spriteRowAddr rf e + 1 ≤ 0x0FFF := by
  have hrow := flippedRow_lt h0 hh
  have hpair := tilePair_le e.tile
  have htile := e.tile.isLt
  unfold spriteRowAddr
  unfold RegFile.spriteHeight at hrow
  split_ifs at hrow ⊢ <;> omega

/-- Settles O29: the clauses of R87, each by the bound of its address. -/
theorem everyFetchAddressIsInItsSpace : Obligations.EveryFetchAddressIsInItsSpace := by
  refine ⟨fun s i hi => ⟨by omega, rfl⟩, fun s t dma hrf hblk ho => selection_congr hrf hblk ho dma,
    fun sel bx by' hx hy => mapAddr_bounds sel hx hy,
    fun s x hx => mapAddr_bounds _ (by omega) s.blk.wlc.isLt, fun t r hr => ?_, fun t r hr => ?_,
    fun rf e h0 hh => spriteRowAddr_le h0 hh, fun s hc => ?_⟩
  · have := tileAddr_unsigned_le t
    omega
  · have := tileAddr_signed_bounds t
    omega
  · unfold State.tripletAddr
    omega

/-! ### Where CLOCK draws -/

/-- R140's row for PixelTransfer. -/
theorem modeOf_eq_xfer {l d px : Nat} (h : modeOf l d px = .xfer) : l < 144 ∧ 80 < d ∧ px < 160 := by
  unfold modeOf at h
  split_ifs at h
  omega

/-- Lines 1 to 28 of R131 write neither a memory nor `S.WIN_VIS`. -/
theorem beforeTransfer_mem_winVis (s : State) (dma : Bool) :
    (s.beforeTransfer dma).mem = s.mem ∧ (s.beforeTransfer dma).blk.winVis = s.blk.winVis := by
  refine ⟨by rw [beforeTransfer_frame], ?_⟩
  obtain ⟨-, hb⟩ | ⟨-, -, hb⟩ | ⟨-, -, hb⟩ := beforeTransfer_cases s dma <;> rw [hb]
  · rw [advanceDot_frame]; rfl
  · obtain ⟨pipe, hscan, -⟩ := opScan_blk dma s
    simp only [State.recomputeCoin_blk, hscan]
  · rfl

/-- After the scan, lines 1 to 28 leave the column count. -/
theorem beforeTransfer_px {s : State} (h : 81 ≤ s.rf.dot.toNat) (dma : Bool) :
    (s.beforeTransfer dma).blk.px = s.blk.px := by
  obtain ⟨-, hb⟩ | ⟨hdot, -, -⟩ | ⟨-, -, hb⟩ := beforeTransfer_cases s dma
  · rw [hb, advanceDot_frame]; rfl
  · omega
  · rw [hb]; rfl

/-- A CLOCK that finds no PixelTransfer before its transfer dot changes no memory and leaves `S.WIN_VIS`. -/
theorem execClock_draws_nothing {s t : State} {dma : Bool} (ht : exec (.clock dma) s = .next t)
    (hm : (s.beforeTransfer dma).rf.mode ≠ .xfer) : t.mem = s.mem ∧ t.blk.winVis = s.blk.winVis := by
  obtain ⟨-, u, hu, rfl⟩ := execClock_eq_next.1 ht
  rw [State.transferDot, if_neg hm] at hu
  cases hu
  exact beforeTransfer_mem_winVis s dma

/-- Settles O47: the mode that lines 1 to 28 leave is that of R140 at the position and the column, which in none of the
three cases is PixelTransfer. -/
theorem nothingIsDrawnOutsidePixelTransfer : Obligations.NothingIsDrawnOutsidePixelTransfer := by
  intro s t dma h ht hcase
  refine execClock_draws_nothing ht fun hm => ?_
  obtain ⟨hly, hdot, hpx⟩ := modeOf_eq_xfer ((beforeTransfer_ready h dma).mode_eq.symm.trans hm)
  obtain ⟨-, u, hu, rfl⟩ := execClock_eq_next.1 ht
  rw [State.answer_rf, (transferDot_frame hu).1] at hcase
  obtain hline | hscan | ⟨hafter, hfull⟩ := hcase
  · exact absurd hline (Nat.not_le.2 hly)
  · exact absurd hscan (Nat.not_le.2 hdot)
  · rw [beforeTransfer_px hafter, hfull] at hpx
    omega

end Sys2Proof.Machine
end

section
/-! The encoding of command words (spec/30_encoding.md). What the decoder accepts and rejects, by opcode and operand fields;
that a format's word holds its fields and that a word's fields rebuild its named bits; and what a step makes of a presented
word. -/

namespace Sys2Proof

/-! ### What the decoder accepts and rejects -/

/-- The operands of the operation are the fields of the word at the positions of its format (R102, R103). -/
def Instr.ReadFrom (w : Word) : Instr → Prop
  | .clock dma => dma = cmdFlag w
  | .reset => True
  | .rdFrameReady => True
  | .rdVBlank => True
  | .setPalette idx4 r g b => idx4 = cmdIdx4 w ∧ r = cmdR w ∧ g = cmdG w ∧ b = cmdB w
  | .setMonoPref pref => pref = cmdFlag w
  | .scan dma => dma = cmdFlag w
  | .loadSprites => True
  | .pipeClock => True
  | .windowVisible => True
  | .renderPixel idx src pal prio => idx = cmdIdx w ∧ src = cmdSrc w ∧ pal = cmdPal w ∧ prio = cmdPrio w

/-- A reserved opcode (R106). -/
def ReservedOp (op : BitVec 4) : Prop := op = 0x0#4 ∨ op = 0x7#4 ∨ op = 0xD#4 ∨ op = 0xE#4 ∨ op = 0xF#4

/-- The decoder accepts a word as an operation iff the word carries its opcode and its operands (R104). -/
theorem decode_eq_ok_iff {w : Word} {i : Instr} : decode w = .ok i ↔ cmdOp w = i.opcode ∧ i.ReadFrom w := by
  constructor
  · intro h
    unfold decode at h
    split at h
    case h_12 => cases h
    all_goals
      rename_i hop
      cases h
      exact ⟨BitVec.eq_of_toNat_eq hop, by simp [Instr.ReadFrom]⟩
  · rintro ⟨hop, hfields⟩
    cases i <;> simp_all [decode, Instr.opcode, Instr.ReadFrom]

/-- The decoder rejects the reserved opcodes, by name (R106). -/
theorem decode_eq_error_iff {w : Word} {r : Reject} :
    decode w = .error r ↔ ReservedOp (cmdOp w) ∧ r = .reserved (cmdOp w) := by
  constructor
  · intro h
    unfold decode at h
    split at h <;> cases h
    have hlt := (cmdOp w).isLt
    simp only [imp_false, ReservedOp, ← BitVec.toNat_inj, BitVec.toNat_ofNat, and_true] at *
    omega
  · rintro ⟨hop | hop | hop | hop | hop, rfl⟩ <;> simp [decode, hop]

/-! ### The words of the formats hold their fields -/

/-- A field above the lowest part of a word is that field of the rest. -/
theorem extractLsb'_append_of_le {v w k n : Nat} {x : BitVec v} {y : BitVec w} {z : BitVec n} (hk : w ≤ k)
    (hz : x.extractLsb' (k - w) n = z) : (x ++ y).extractLsb' k n = z :=
  (BitVec.extractLsb'_append_eq_of_le hk).trans hz

/-- A flag is a field of one bit. -/
theorem ofBool_getLsbD (w : Word) (k : Nat) : BitVec.ofBool (w.getLsbD k) = w.extractLsb' k 1 := by
  ext i hi
  obtain rfl : i = 0 := by omega
  simp

theorem getLsbD_eq_of_field {w : Word} {k : Nat} {b : Bool} (h : w.extractLsb' k 1 = BitVec.ofBool b) :
    w.getLsbD k = b := by
  rw [BitVec.getLsbD_eq_extractLsb', h]
  cases b <;> rfl

theorem cmdFlag_wordF (flag : Bool) (op : BitVec 4) : cmdFlag (wordF flag op) = flag :=
  getLsbD_eq_of_field (extractLsb'_append_of_le (by decide) BitVec.extractLsb'_append_eq_right)

theorem fields_wordP (idx4 : BitVec 4) (r g b : Byte) (op : BitVec 4) :
    cmdIdx4 (wordP idx4 r g b op) = idx4 ∧ cmdR (wordP idx4 r g b op) = r ∧ cmdG (wordP idx4 r g b op) = g ∧
    cmdB (wordP idx4 r g b op) = b := by
  refine ⟨?_, ?_, ?_, ?_⟩
  · exact extractLsb'_append_of_le (by decide) BitVec.extractLsb'_append_eq_right
  · iterate 2 refine extractLsb'_append_of_le (by decide) ?_
    exact BitVec.extractLsb'_append_eq_right
  · iterate 3 refine extractLsb'_append_of_le (by decide) ?_
    exact BitVec.extractLsb'_append_eq_right
  · iterate 4 refine extractLsb'_append_of_le (by decide) ?_
    exact BitVec.extractLsb'_eq_self

theorem Src.ofBits_bits (src : Src) : Src.ofBits src.bits = src := by cases src <;> rfl

theorem Src.bits_ofBits (v : BitVec 2) : (Src.ofBits v).bits = v := by
  revert v
  decide

theorem fields_wordX (idx : BitVec 2) (src : Src) (pal prio : Bool) (op : BitVec 4) :
    cmdIdx (wordX idx src pal prio op) = idx ∧ cmdSrc (wordX idx src pal prio op) = src ∧
    cmdPal (wordX idx src pal prio op) = pal ∧ cmdPrio (wordX idx src pal prio op) = prio := by
  refine ⟨?_, ?_, getLsbD_eq_of_field ?_, getLsbD_eq_of_field ?_⟩
  · exact extractLsb'_append_of_le (by decide) BitVec.extractLsb'_append_eq_right
  · refine (congrArg Src.ofBits ?_).trans (Src.ofBits_bits src)
    iterate 2 refine extractLsb'_append_of_le (by decide) ?_
    exact BitVec.extractLsb'_append_eq_right
  · iterate 3 refine extractLsb'_append_of_le (by decide) ?_
    exact BitVec.extractLsb'_append_eq_right
  · iterate 4 refine extractLsb'_append_of_le (by decide) ?_
    exact BitVec.extractLsb'_append_eq_right

/-- Every format has the opcode in bits 3:0 (R102). -/
theorem cmdOp_encode (i : Instr) : cmdOp (encode i) = i.opcode := by
  cases i <;> exact BitVec.extractLsb'_append_eq_right

theorem encode_readFrom (i : Instr) : i.ReadFrom (encode i) := by
  cases i with
  | clock | setMonoPref | scan => exact (cmdFlag_wordF _ _).symm
  | reset | rdFrameReady | rdVBlank | loadSprites | pipeClock | windowVisible => trivial
  | setPalette idx4 r g b =>
    obtain ⟨hidx4, hr, hg, hb⟩ := fields_wordP idx4 r g b 0x5#4
    exact ⟨hidx4.symm, hr.symm, hg.symm, hb.symm⟩
  | renderPixel idx src pal prio =>
    obtain ⟨hidx, hsrc, hpal, hprio⟩ := fields_wordX idx src pal prio 0xC#4
    exact ⟨hidx.symm, hsrc.symm, hpal.symm, hprio.symm⟩

/-- Settles O3: the word of an operation carries its opcode and its operands, which is what the decoder accepts. -/
theorem decodeInvertsEncode : Obligations.DecodeInvertsEncode :=
  fun i => decode_eq_ok_iff.2 ⟨cmdOp_encode i, encode_readFrom i⟩

/-! ### The fields of a word rebuild its named bits -/

/-- Masking with `n` low ones keeps the `n` low bits and clears the rest. -/
theorem and_lowOnes {m n : Nat} (w : BitVec (m + n)) :
    w &&& (0#m ++ BitVec.allOnes n) = 0#m ++ w.extractLsb' 0 n := by
  ext i hi
  simp only [BitVec.getElem_and, BitVec.getElem_append]
  split <;> simp [*]

theorem wordN_of_fields (w : Word) : wordN (cmdOp w) = w &&& 0x0000000F#32 :=
  (and_lowOnes (m := 28) (n := 4) w).symm

theorem wordF_of_fields (w : Word) : wordF (cmdFlag w) (cmdOp w) = w &&& 0x0000001F#32 := by
  rw [wordF, cmdFlag, cmdOp, ofBool_getLsbD, BitVec.append_assoc,
    BitVec.extractLsb'_append_extractLsb'_eq_extractLsb' (by simp)]
  exact (and_lowOnes (m := 27) (n := 5) w).symm

theorem wordP_of_fields (w : Word) : wordP (cmdIdx4 w) (cmdR w) (cmdG w) (cmdB w) (cmdOp w) = w := by
  unfold wordP cmdIdx4 cmdR cmdG cmdB cmdOp
  iterate 4 rw [BitVec.extractLsb'_append_extractLsb'_eq_extractLsb' (by simp)]
  exact BitVec.extractLsb'_eq_self

theorem wordX_of_fields (w : Word) :
    wordX (cmdIdx w) (cmdSrc w) (cmdPal w) (cmdPrio w) (cmdOp w) = w &&& 0x000003FF#32 := by
  rw [wordX, cmdSrc, Src.bits_ofBits, cmdPal, cmdPrio, ofBool_getLsbD, ofBool_getLsbD, cmdIdx, cmdOp]
  iterate 4 rw [BitVec.append_assoc]
  iterate 4 rw [BitVec.extractLsb'_append_extractLsb'_eq_extractLsb' (by simp)]
  exact (and_lowOnes (m := 22) (n := 10) w).symm

end Sys2Proof

namespace Sys2Proof.Machine

theorem encode_of_decode {w : Word} {i : Instr} (h : decode w = .ok i) : encode i = w &&& namedBits (cmdOp w) := by
  obtain ⟨hop, hfields⟩ := decode_eq_ok_iff.1 h
  cases i with
  | reset | rdFrameReady | rdVBlank | loadSprites | pipeClock | windowVisible =>
    rw [encode, ← hop, wordN_of_fields, hop]
    rfl
  | clock | setMonoPref | scan =>
    obtain rfl := hfields
    rw [encode, ← hop, wordF_of_fields, hop]
    rfl
  | setPalette =>
    obtain ⟨rfl, rfl, rfl, rfl⟩ := hfields
    rw [encode, ← hop, wordP_of_fields, hop]
    exact BitVec.and_allOnes.symm
  | renderPixel =>
    obtain ⟨rfl, rfl, rfl, rfl⟩ := hfields
    rw [encode, ← hop, wordX_of_fields, hop]
    rfl

/-- Settles O4: each format's word is rebuilt from the fields the decoder reads. -/
theorem encodeInvertsDecodeOnNamedBits : Obligations.EncodeInvertsDecodeOnNamedBits := fun _ _ => encode_of_decode

/-! ### The ignored bits -/

theorem cmdOp_and_namedBits (w : Word) (op : BitVec 4) : cmdOp (w &&& namedBits op) = cmdOp w := by
  have hones : ∀ op : BitVec 4, (namedBits op).extractLsb' 0 4 = BitVec.allOnes 4 := by decide
  rw [cmdOp, BitVec.extractLsb'_and, hones, BitVec.and_allOnes, cmdOp]

/-- Clearing a word's ignored bits leaves what it decodes to. -/
theorem decode_and_namedBits (w : Word) : decode (w &&& namedBits (cmdOp w)) = decode w := by
  cases h : decode w with
  | ok i => rw [← encode_of_decode h]; exact decodeInvertsEncode i
  | error r =>
    have hr := decode_eq_error_iff.1 h
    rwa [← cmdOp_and_namedBits w (cmdOp w), ← decode_eq_error_iff] at hr

/-- Settles O5: the named bits determine the opcode, and a word decodes as its named bits do. -/
theorem ignoredBitsHaveNoEffect : Obligations.IgnoredBitsHaveNoEffect := by
  intro w v h
  have hop : cmdOp v = cmdOp w := by
    calc cmdOp v
      _ = cmdOp (v &&& namedBits (cmdOp w)) := (cmdOp_and_namedBits _ _).symm
      _ = cmdOp (w &&& namedBits (cmdOp w)) := congrArg cmdOp h.symm
      _ = cmdOp w := cmdOp_and_namedBits _ _
  calc decode v
    _ = decode (v &&& namedBits (cmdOp w)) := by rw [← hop, decode_and_namedBits]
    _ = decode (w &&& namedBits (cmdOp w)) := congrArg decode h.symm
    _ = decode w := decode_and_namedBits w

/-! ### What a step makes of a presented word -/

/-- The external operations have opcodes 1 to 6 (R104). -/
theorem opcode_of_external {i : Instr} (h : i.external = true) : 1 ≤ i.opcode.toNat ∧ i.opcode.toNat ≤ 6 := by
  cases i with
  | clock | reset | rdFrameReady | rdVBlank | setPalette | setMonoPref => simp [Instr.opcode]
  | scan | loadSprites | pipeClock | windowVisible | renderPixel => cases h

/-- Settles O6: of what a step can do with a command word waiting, only an opcode from 1 to 6 lets it run an operation. -/
theorem portIgnoresReservedAndInternalWords : Obligations.PortIgnoresReservedAndInternalWords := by
  intro s w rest hs hp hop
  obtain ⟨hnil, -⟩ | ⟨_, _, i, hcmd, hd, hx, -⟩ | ⟨_, _, hcmd, hstep⟩ | ⟨_, _, hhost, -⟩ := step_cases hs
  · cases hp.symm.trans hnil
  · cases hp.symm.trans hcmd
    have hopcode : w.extractLsb' 0 4 = i.opcode := (decode_eq_ok_iff.1 hd).1
    have := opcode_of_external hx
    rw [hopcode] at hop
    omega
  · cases hp.symm.trans hcmd
    exact hstep
  · cases hp.symm.trans hhost

theorem fromStrobe_eq_run {w : Word} {i : Instr} : fromStrobe w = .run i ↔ decode w = .ok i := by
  unfold fromStrobe
  split <;> rename_i hd <;> simp [hd]

/-- A step runs the external operation on the command port. -/
theorem step_cmd {s : State} {w : Word} {i : Instr} {rest : List Input} (hs : s.strobe = none)
    (hp : s.pending = .cmd w :: rest) (hd : decode w = .ok i) (hx : i.external = true) :
    step s = exec i { s with pending := rest } := by
  simp [step, fetch, hs, hp, fromPort_eq_run.2 ⟨hd, hx⟩]

/-- A step runs the operation on the strobe wires. -/
theorem step_strobe {s : State} {w : Word} {i : Instr} (hs : s.strobe = some w) (hd : decode w = .ok i) :
    step s = exec i { s with strobe := none } := by
  simp [step, fetch, hs, fromStrobe_eq_run.2 hd]

/-- Settles O7: one clause for the port, one for the strobe wires. -/
theorem stepRunsTheDecodedOperation : Obligations.StepRunsTheDecodedOperation :=
  ⟨fun _ _ _ _ => step_cmd, fun _ _ _ => step_strobe⟩

/-- An external operation's word is presented on the command port. -/
theorem presentWord_of_external (s : State) {w : Word} {i : Instr} (hd : decode w = .ok i) (hx : i.external = true) :
    presentWord s w = { s with strobe := none, pending := .cmd w :: s.pending } := by
  simp [presentWord, fromPort_eq_run.2 ⟨hd, hx⟩]

/-- An internal operation's word is presented on the strobe wires. -/
theorem presentWord_of_internal (s : State) {w : Word} {i : Instr} (hd : decode w = .ok i) (hx : i.external = false) :
    presentWord s w = { s with strobe := some w } := by
  have hport : fromPort w = .ignored := by simp [fromPort, hd, hx]
  simp [presentWord, hport, fromStrobe_eq_run.2 hd]

theorem decodeTableWord_eq_some_iff {nbits w : Nat} {i : Instr} :
    decodeTableWord nbits w = some i ↔ decode (tableWord nbits w) = .ok i := by
  unfold decodeTableWord
  split <;> rename_i hd <;> simp [hd]

/-- Settles O8: the word goes to the port or to the strobe wires, and the step runs it from there. -/
theorem fetchWordRunsItsRow : Obligations.FetchWordRunsItsRow := by
  intro s nbits w i h
  have hd := decodeTableWord_eq_some_iff.1 h
  unfold State.withFetchWord
  cases hx : i.external with
  | true =>
    rw [presentWord_of_external s hd hx]
    exact step_cmd rfl rfl hd hx
  | false =>
    rw [presentWord_of_internal s hd hx]
    exact step_strobe rfl hd

/-! ### The opcode map and its worked encodings -/

/-- Settles O2: what the decoder accepts and rejects, opcode by opcode, and the source tags by their codes. -/
theorem decodeReadsTheNamedFields : Obligations.DecodeReadsTheNamedFields := by
  intro w
  refine ⟨fun h => decode_eq_ok_iff.2 ⟨h, rfl⟩, fun h => decode_eq_ok_iff.2 ⟨h, trivial⟩,
    fun h => decode_eq_ok_iff.2 ⟨h, trivial⟩, fun h => decode_eq_ok_iff.2 ⟨h, trivial⟩,
    fun h => decode_eq_ok_iff.2 ⟨h, rfl, rfl, rfl, rfl⟩, fun h => decode_eq_ok_iff.2 ⟨h, rfl⟩,
    fun h => decode_eq_ok_iff.2 ⟨h, rfl⟩, fun h => decode_eq_ok_iff.2 ⟨h, trivial⟩,
    fun h => decode_eq_ok_iff.2 ⟨h, trivial⟩, fun h => decode_eq_ok_iff.2 ⟨h, trivial⟩,
    fun h => ⟨cmdSrc w, decode_eq_ok_iff.2 ⟨h, rfl, rfl, rfl, rfl⟩, ?_⟩,
    fun h => decode_eq_error_iff.2 ⟨h, rfl⟩⟩
  and_intros <;> exact fun hsrc => congrArg Src.ofBits hsrc

/-- Settles O1: the words are evaluated, and entry `6 & 3` of the shade table is the one that SET_PALETTE writes. -/
theorem workedCommandWordsDecode : Obligations.WorkedCommandWordsDecode := by
  have hentry : ∀ s : State, ∃ t, exec (.setPalette 6#4 0x55#8 0xAA#8 0xFF#8) s = .next t ∧
      t.blk.shadeRgb[2] = { r := 0x55#8, g := 0xAA#8, b := 0xFF#8 } :=
    fun s => ⟨_, rfl, Vector.getElem_set_self _⟩
  exact ⟨rfl, rfl, rfl, rfl, rfl, rfl, rfl, hentry, rfl, rfl, rfl⟩

end Sys2Proof.Machine
end

section
/-! The scheduler (spec/40_scheduler.md): RESET and the two latch reads; CLOCK at a line start, at the scan dot and at the
transfer dot; and what a line and a frame of CLOCKs do. -/

namespace Sys2Proof.Machine

/-! ### RESET and the latch reads -/

/-- Settles O13: RESET is the one record update of its meaning, and every clause reads it off. -/
theorem resetCommandWritesItsThirteenElements : Obligations.ResetCommandWritesItsThirteenElements :=
  ⟨fun _ hop => decode_eq_ok_iff.2 ⟨hop, trivial⟩,
    fun _ => ⟨_, rfl, rfl, rfl, rfl, rfl, rfl, rfl, rfl, rfl, ⟨rfl, rfl, rfl⟩, rfl⟩⟩

/-- Settles O14: the thirteen elements get constants, so a second RESET writes what is there. -/
theorem resetIsIdempotent : Obligations.ResetIsIdempotent := by
  intro s t ht
  cases ht
  rfl

theorem exec_rdFrameReady {s : State} (ha : s.awaitReset = false) : exec .rdFrameReady s = .next s.takeFrameReady :=
  afterReset_ready ha _

theorem exec_rdVBlank {s : State} (ha : s.awaitReset = false) : exec .rdVBlank s = .next s.takeVBlankEntered :=
  afterReset_ready ha _

/-- Settles O16: `exec_rdFrameReady`, at the state itself and at the one with the latch cleared. -/
theorem readFrameReadyTakesTheLatch : Obligations.ReadFrameReadyTakesTheLatch := by
  refine ⟨fun _ hop => decode_eq_ok_iff.2 ⟨hop, trivial⟩, fun s ha => ⟨exec_rdFrameReady ha, fun t ht => ?_⟩⟩
  cases (exec_rdFrameReady ha).symm.trans ht
  exact ⟨rfl, exec_rdFrameReady ha⟩

/-- Settles O17: `exec_rdVBlank`, at the state itself and at the one with the latch cleared. -/
theorem readVBlankTakesTheLatch : Obligations.ReadVBlankTakesTheLatch := by
  refine ⟨fun _ hop => decode_eq_ok_iff.2 ⟨hop, trivial⟩, fun s ha => ⟨exec_rdVBlank ha, fun t ht => ?_⟩⟩
  cases (exec_rdVBlank ha).symm.trans ht
  exact ⟨rfl, exec_rdVBlank ha⟩

/-! ### The mode and the coincidence bit -/

/-- Settles O39: `execClock_legal` has the mode as R140's function, whose rows are the clauses. -/
theorem modeIsAFunctionOfThePosition : Obligations.ModeIsAFunctionOfThePosition := by
  refine ⟨fun s t dma h ht => ?_, fun s t ht => ?_⟩
  · rw [(execClock_legal h ht).mode_eq]
    unfold modeOf
    refine ⟨fun hly => if_pos hly, fun hly hdot => ?_, fun hly hdot hpx => ?_, fun hly hdot hpx => ?_⟩
    · rw [if_neg (by omega), if_pos hdot]
    · rw [if_neg (by omega), if_neg (by omega), if_pos hpx]
    · rw [if_neg (by omega), if_neg (by omega), if_neg (by omega)]
  · cases ht
    exact ⟨by simp, by simp, rfl⟩

/-- Settles O40: `execClock_rf` compares the scanline index that lines 1 to 21 leave, which is the final one. -/
theorem clockRecomputesCoincidence : Obligations.ClockRecomputesCoincidence := by
  intro s t dma ht
  rw [execClock_rf ht]

/-! ### Lines 1 to 28 of R131, at a line start and at the scan dot -/

/-- Away from a line start, lines 1 to 28 write no more of the block than the scan does. -/
theorem beforeTransfer_blk_of_ne_wrap {s : State} (h : s.rf.dot.toNat ≠ 456) (dma : Bool) :
    (s.beforeTransfer dma).blk =
      { s.blk with
        px := (s.beforeTransfer dma).blk.px
        sel := (s.beforeTransfer dma).blk.sel
        nsel := (s.beforeTransfer dma).blk.nsel
        pipeSpr := (s.beforeTransfer dma).blk.pipeSpr
        npipe := (s.beforeTransfer dma).blk.npipe
        stallBudget := (s.beforeTransfer dma).blk.stallBudget } := by
  obtain ⟨hwrap, -⟩ | ⟨-, -, hb⟩ | ⟨-, -, hb⟩ := beforeTransfer_cases s dma
  · exact absurd hwrap h
  · obtain ⟨pipe, hscan, -⟩ := opScan_blk dma s
    rw [hb]
    simp only [State.recomputeCoin_blk, hscan]
  · rw [hb]
    rfl

/-- At the scan dot of a visible line, lines 1 to 28 run SCAN and clear the column count (R136). -/
theorem beforeTransfer_of_scan {s : State} (hdot : s.rf.dot.toNat = 79) (hly : s.rf.ly.toNat < 144) (dma : Bool) :
    s.beforeTransfer dma = { opScan dma s with rf.dot := 80#9, blk.px := 0#8 }.recomputeCoin := by
  obtain ⟨hwrap, -⟩ | ⟨-, -, hb⟩ | ⟨-, hno, -⟩ := beforeTransfer_cases s dma
  · omega
  · exact hb
  · exact absurd ⟨hdot, hly⟩ hno

/-- Away from the scan dot of a visible line, lines 1 to 28 start a line or move the dot counter. They do not read the `dma`
operand (R136). -/
theorem beforeTransfer_of_not_scan {s : State} (h : ¬(s.rf.dot.toNat = 79 ∧ s.rf.ly.toNat < 144)) (dma : Bool) :
    s.beforeTransfer dma =
      if s.rf.dot.toNat = 456 then s.advanceDot.recomputeCoin
      else
        { s with
          rf.dot := BitVec.ofNat 9 (s.rf.dot.toNat + 1)
          rf.mode := if s.rf.dot.toNat = 80 ∧ s.rf.ly.toNat < 144 then .xfer else s.rf.mode }.recomputeCoin := by
  obtain ⟨hwrap, hb⟩ | ⟨hdot, hly, -⟩ | ⟨hstep, -, hb⟩ := beforeTransfer_cases s dma
  · rw [if_pos hwrap, hb]
  · exact absurd ⟨hdot, hly⟩ h
  · rw [if_neg hstep, hb]

/-- Away from the scan dot of a visible line, lines 1 to 28 write no more of the block than a line start does. -/
theorem beforeTransfer_blk_of_not_scan {s : State} (h : ¬(s.rf.dot.toNat = 79 ∧ s.rf.ly.toNat < 144)) (dma : Bool) :
    (s.beforeTransfer dma).blk =
      { s.blk with
        wlc := (s.beforeTransfer dma).blk.wlc
        wyLatch := (s.beforeTransfer dma).blk.wyLatch
        cursor := (s.beforeTransfer dma).blk.cursor
        frameReady := (s.beforeTransfer dma).blk.frameReady
        vblankEntered := (s.beforeTransfer dma).blk.vblankEntered } := by
  rw [beforeTransfer_of_not_scan h]
  split
  · rw [State.recomputeCoin_blk, advanceDot_frame]
  · rfl

/-! ### The line start -/

/-- A CLOCK that ends at dot 1 has started the line it ends on: it sets that line's mode (R134, R135), the window line
counter (R133), the window-Y latch (R133, R134), and on line 144 the cursor and the two edge latches (R135). -/
theorem execClock_of_dot_eq_one {s t : State} {dma : Bool} (h : s.PositionLegal) (ht : exec (.clock dma) s = .next t)
    (hdot : t.rf.dot.toNat = 1) :
    t.rf.mode = (if t.rf.ly.toNat < 144 then .objScan else .vblank) ∧
    t.blk =
      { s.blk with
        wlc := if t.rf.ly.toNat = 0 then 0#8 else if s.blk.winVis then s.blk.wlc + 1#8 else s.blk.wlc
        wyLatch :=
          if t.rf.ly.toNat < 144 ∧ t.rf.ly = s.rf.wy then true
          else if t.rf.ly.toNat = 0 then false
          else s.blk.wyLatch
        cursor := if t.rf.ly.toNat = 144 then 0#15 else s.blk.cursor
        frameReady := if t.rf.ly.toNat = 144 then true else s.blk.frameReady
        vblankEntered := if t.rf.ly.toNat = 144 then true else s.blk.vblankEntered } := by
  have hwrap : s.rf.dot.toNat = 456 := by
    by_contra hne
    have hstep := execClock_dot_ly (by have := h.dot_le; omega) ht
    have := h.dot_pos
    omega
  have hly : t.rf.ly.toNat = nextLineIndex s.rf.ly := by
    rw [execClock_rf ht, ((advanceDot_position s).1 hwrap).2, nextLineIndex_toNat h.ly_le]
  simp only [← BitVec.toNat_inj (x := t.rf.ly), hly]
  rw [execClock_wrap hwrap ht]
  refine ⟨?_, advanceDot_wrap_blk hwrap⟩
  simp only [State.answer_rf, State.recomputeCoin_rf, advanceDot_mode, if_pos hwrap]

/-- A CLOCK that ends at another dot has started no line: the window counters, the edge latches and, but for one pixel, the
cursor are as before. -/
theorem execClock_of_dot_ne_one {s t : State} {dma : Bool} (h : s.PositionLegal) (ht : exec (.clock dma) s = .next t)
    (hdot : t.rf.dot.toNat ≠ 1) :
    t.blk.wlc = s.blk.wlc ∧ t.blk.wyLatch = s.blk.wyLatch ∧
    t.blk.frameReady = s.blk.frameReady ∧ t.blk.vblankEntered = s.blk.vblankEntered ∧
    (t.blk.cursor = s.blk.cursor ∨ t.blk.cursor = s.blk.cursor + 1#15) := by
  have hstep : s.rf.dot.toNat ≠ 456 := fun hwrap => hdot (execClock_dot_ly_wrap h.ly_le hwrap ht).1
  obtain ⟨-, u, hu, rfl⟩ := execClock_eq_next.1 ht
  have hbefore := beforeTransfer_blk_of_ne_wrap hstep dma
  obtain ⟨hdots, hmove⟩ := transferDot_frame hu
  have hcursor : u.blk.cursor = s.blk.cursor ∨ u.blk.cursor = s.blk.cursor + 1#15 := by
    obtain ⟨-, hkeep, -⟩ | ⟨-, hnext, -⟩ := hmove
    · exact .inl (by rw [hkeep, hbefore])
    · exact .inr (by rw [hnext, hbefore])
  refine ⟨?_, ?_, ?_, ?_, hcursor⟩ <;> rw [State.answer_blk, hdots, hbefore]

/-- Settles O41: line 144 apart, neither kind of dot moves a latch. -/
theorem enteringLine144SetsBothLatches : Obligations.EnteringLine144SetsBothLatches := by
  intro s t dma h ht
  by_cases hdot : t.rf.dot.toNat = 1
  · obtain ⟨hmode, hblk⟩ := execClock_of_dot_eq_one h ht hdot
    rw [hblk, hmode]
    refine ⟨fun ⟨hly, _⟩ => ?_, fun hne => ?_, fun ⟨hly, _⟩ => if_neg (by omega)⟩
    · simp only [if_pos hly, and_self]
    · have hly : t.rf.ly.toNat ≠ 144 := fun hly => hne ⟨hly, hdot⟩
      simp only [if_neg hly, true_or, and_self]
  · obtain ⟨-, -, hframe, hvblank, hcursor⟩ := execClock_of_dot_ne_one h ht hdot
    exact ⟨fun hat => absurd hat.2 hdot, fun _ => ⟨hframe, hvblank, hcursor⟩, fun hat => absurd hat.2 hdot⟩

/-- Settles O42: the window-Y latch and the mode at a line start and away from one. -/
theorem windowYLatchIsSetAtTheLineStart : Obligations.WindowYLatchIsSetAtTheLineStart := by
  intro s t dma h ht
  refine ⟨fun hdot => (execClock_of_dot_ne_one h ht hdot).2.1, fun hdot => ?_, fun hdot hly => ?_⟩
  · rw [(execClock_of_dot_eq_one h ht hdot).2]
  · rw [(execClock_of_dot_eq_one h ht hdot).1, if_pos hly]

/-- Settles O43: the window line counter at a line start and away from one. -/
theorem windowLineCounterAdvancesAtTheWrap : Obligations.WindowLineCounterAdvancesAtTheWrap := by
  intro s t dma h ht
  refine ⟨fun hdot => (execClock_of_dot_ne_one h ht hdot).1, fun hdot => ?_⟩
  rw [(execClock_of_dot_eq_one h ht hdot).2]

/-! ### The scan dot and the transfer dot -/

/-- Before its transfer dot a CLOCK is in PixelTransfer exactly past dot 80 of a visible line with a pixel still to come
(R140). -/
theorem State.ReadyToStrobe.mode_eq_xfer_iff {s : State} (h : s.ReadyToStrobe) :
    s.rf.mode = .xfer ↔ s.rf.ly.toNat < 144 ∧ 80 < s.rf.dot.toNat ∧ s.blk.px.toNat < 160 := by
  rw [h.mode_eq]
  refine ⟨modeOf_eq_xfer, fun ⟨hly, hdot, hpx⟩ => ?_⟩
  rw [modeOf, if_neg (by omega), if_neg (by omega), if_pos hpx]

/-- A CLOCK that finds no PixelTransfer before its transfer dot ends there. -/
theorem execClock_of_not_xfer {s t : State} {dma : Bool} (ht : exec (.clock dma) s = .next t)
    (hm : (s.beforeTransfer dma).rf.mode ≠ .xfer) : t = (s.beforeTransfer dma).answer false := by
  obtain ⟨-, u, hu, rfl⟩ := execClock_eq_next.1 ht
  rw [State.transferDot, if_neg hm] at hu
  cases hu
  rfl

/-- At the scan dot of a visible line CLOCK runs SCAN, clears the column count, and ends. -/
theorem execClock_of_scan {s t : State} {dma : Bool} (h : s.Legal) (ht : exec (.clock dma) s = .next t)
    (hdot : s.rf.dot.toNat = 79) (hly : s.rf.ly.toNat < 144) :
    t = ({ opScan dma s with rf.dot := 80#9, blk.px := 0#8 }.recomputeCoin).answer false := by
  have hbefore := beforeTransfer_of_scan hdot hly dma
  rw [← hbefore]
  refine execClock_of_not_xfer ht fun hm => ?_
  have hlate := ((beforeTransfer_ready h dma).mode_eq_xfer_iff.1 hm).2.1
  rw [hbefore] at hlate
  exact absurd hlate (by simp)

/-- The scan dot has no effect on an invisible line (R136). -/
theorem execClock_of_invisible_scan {s t : State} {dma : Bool} (h : s.Legal) (ht : exec (.clock dma) s = .next t)
    (hdot : s.rf.dot.toNat = 79) (hly : 144 ≤ s.rf.ly.toNat) :
    t = { s with rf.dot := 80#9, rf.coin := decide (s.rf.ly = s.rf.lyc), rdata := false } := by
  have hbefore : s.beforeTransfer dma = { s with rf.dot := 80#9 }.recomputeCoin := by
    rw [beforeTransfer_of_not_scan (by omega), if_neg (by omega), hdot, if_neg (by omega)]
  rw [execClock_of_not_xfer ht, hbefore]
  · rfl
  · intro hm
    have hvisible := ((beforeTransfer_ready h dma).mode_eq_xfer_iff.1 hm).1
    rw [hbefore] at hvisible
    exact absurd hvisible (Nat.not_lt.2 hly)

/-- Away from the scan dot of a visible line CLOCK keeps both sprite sets. Past dot 80 of a visible line it counts a pixel
or spends a stall while a pixel is still to come, and it moves neither the count nor the budget anywhere else (R193). -/
theorem execClock_of_not_scan {s t : State} {dma : Bool} (h : s.Legal) (ht : exec (.clock dma) s = .next t)
    (hno : ¬(s.rf.dot.toNat = 79 ∧ s.rf.ly.toNat < 144)) :
    (t.blk.sel = s.blk.sel ∧ t.blk.nsel = s.blk.nsel ∧ t.blk.pipeSpr = s.blk.pipeSpr ∧ t.blk.npipe = s.blk.npipe) ∧
    if t.rf.ly.toNat < 144 ∧ 80 < t.rf.dot.toNat ∧ s.blk.px.toNat < 160 then
      (t.blk.px.toNat = s.blk.px.toNat + 1 ∧ t.blk.stallBudget = s.blk.stallBudget) ∨
      (t.blk.px = s.blk.px ∧ t.blk.stallBudget.toNat + 1 = s.blk.stallBudget.toNat)
    else t.blk.px = s.blk.px ∧ t.blk.stallBudget = s.blk.stallBudget := by
  obtain ⟨-, u, hu, rfl⟩ := execClock_eq_next.1 ht
  have hblk := beforeTransfer_blk_of_not_scan hno dma
  have hpx : (s.beforeTransfer dma).blk.px = s.blk.px := by rw [hblk]
  have hbudget : (s.beforeTransfer dma).blk.stallBudget = s.blk.stallBudget := by rw [hblk]
  have hxfer := (beforeTransfer_ready h dma).mode_eq_xfer_iff
  rw [hpx] at hxfer
  obtain ⟨hdots, hmove⟩ := transferDot_frame hu
  have hly : u.rf.ly = (s.beforeTransfer dma).rf.ly := by rw [hdots]
  have hdot : u.rf.dot = (s.beforeTransfer dma).rf.dot := by rw [hdots]
  rw [hpx, hbudget] at hmove
  simp only [State.answer_blk, State.answer_rf, hly, hdot]
  refine ⟨by and_intros <;> rw [hdots, hblk], ?_⟩
  obtain ⟨-, -, hkeep, -, ⟨hm, rfl⟩ | ⟨hm, hstall⟩⟩ | ⟨hm, -, hcount, hkeep, -⟩ := hmove
  · rw [if_neg (mt hxfer.2 hm)]
    exact ⟨hkeep, hbudget⟩
  · rw [if_pos (hxfer.1 hm)]
    exact .inr ⟨hkeep, hstall⟩
  · have hat := hxfer.1 hm
    rw [if_pos hat, hcount, BitVec.toNat_add, BitVec.toNat_ofNat]
    exact .inl ⟨by omega, hkeep⟩

/-- Settles O44: the three clauses are `execClock_of_scan`, `execClock_of_not_scan` and `execClock_of_invisible_scan`; the
`dma` operand reaches nothing in the second by `beforeTransfer_of_not_scan`. -/
theorem scannerRunsExactlyAtDot80OfVisibleLines : Obligations.ScannerRunsExactlyAtDot80OfVisibleLines := by
  intro s t dma h ht
  refine ⟨fun hdot hly => ⟨opScan dma s, rfl, ?_⟩, fun hno => ?_, execClock_of_invisible_scan h ht⟩
  · rw [execClock_of_scan h ht hdot hly]
    exact ⟨rfl, rfl, rfl, rfl, rfl, rfl⟩
  · have hsame : s.beforeTransfer (!dma) = s.beforeTransfer dma := by
      rw [beforeTransfer_of_not_scan hno, beforeTransfer_of_not_scan hno]
    have hdma : exec (.clock (!dma)) s = .next t := by
      rw [execClock_eq_next, hsame, ← execClock_eq_next]
      exact ht
    obtain ⟨⟨hsel, hnsel, hpipe, hnpipe⟩, hmove⟩ := execClock_of_not_scan h ht hno
    refine ⟨hdma, hsel, hnsel, hpipe, hnpipe, fun hquiet => ?_, fun hly hdot => ?_⟩
    · rwa [if_neg (by omega)] at hmove
    · by_cases hpx : s.blk.px.toNat < 160
      · rw [if_pos ⟨hly, hdot, hpx⟩] at hmove
        obtain ⟨hcount, hbudget⟩ | ⟨hcount, hbudget⟩ := hmove
        · exact .inl ⟨hpx, hcount, hbudget⟩
        · exact .inr (.inl ⟨hpx, hcount, hbudget⟩)
      · rw [if_neg (fun hall => hpx hall.2.2)] at hmove
        exact .inr (.inr ⟨by have := h.px_le; omega, hmove⟩)

/-- RENDER_PIXEL keeps the Register File. -/
theorem opRenderPixel_rf {p : Pixel} {s t : State} (ht : opRenderPixel p s = .next t) : t.rf = s.rf := by
  obtain ⟨-, h⟩ | ⟨-, h⟩ | ⟨-, h⟩ := opRenderPixel_cases p s <;> rw [h] at ht <;> cases ht <;> rfl

/-- In PixelTransfer, lines 34 and 35 set the mode by the column count (R139). -/
theorem endOfTransfer_of_xfer {s : State} (h : s.rf.mode = .xfer) :
    s.endOfTransfer = { s with rf.mode := if s.blk.px.toNat = 160 then .hblank else .xfer } := by
  unfold State.endOfTransfer
  split
  · rfl
  · rw [← h]

/-- Settles O45: by what PIPE_CLOCK yields at `m`, and for a pixel by the outcome of RENDER_PIXEL. -/
theorem clockTransferIsThePipelineThenTheRenderer : Obligations.ClockTransferIsThePipelineThenTheRenderer := by
  intro s m dma ha hm
  have hclock : exec (.clock dma) s = andThen m.transferDot (fun t => .next (t.answer false)) := by
    rw [hm]
    exact afterReset_ready ha _
  rw [hclock, State.transferDot]
  refine ⟨fun hmode => ?_, fun hmode => ?_⟩
  · rw [if_neg hmode]
    rfl
  · have hpipe : exec .pipeClock m = .next { (opPipeClock m).2 with pixWire := (opPipeClock m).1 } := rfl
    rw [if_pos hmode, hpipe]
    obtain ⟨-, -, hp⟩ | ⟨-, hp⟩ := opPipeClock_cases m <;> rw [hp]
    · simp only [renderYield, andThen_next, endOfTransfer_of_xfer (s := m.stall) hmode]
      rfl
    · generalize m.pixelAt m.blk.px.toNat = p
      have hrender : exec (.renderPixel p.idx p.src p.pal p.prio) { m.yielded with pixWire := m.pixWire } =
          opRenderPixel p m.yielded := rfl
      simp only [renderYield, andThen_next, hrender]
      cases ho : opRenderPixel p m.yielded with
      | next v =>
        have hv : v.countPixel.rf.mode = .xfer := (congrArg RegFile.mode (opRenderPixel_rf ho)).trans hmode
        simp only [andThen_next, endOfTransfer_of_xfer hv]
        rfl
      | fault r => rfl
      | refused r => rfl

/-! ### A line and a frame of CLOCKs -/

/-- At the scan dot of a visible line no pixel is out yet (R44, R193). -/
theorem State.Legal.px_of_scanDot {s : State} (h : s.Legal) (hly : s.rf.ly.toNat < 144) (hdot : s.rf.dot.toNat = 80) :
    s.blk.px.toNat = 0 := by
  have hstrobes := h.strobes hly (by omega)
  have hbudget := h.budget_le
  omega

/-- At the last dot of a visible line every pixel is out (R193). -/
theorem State.Legal.px_of_lastDot {s : State} (h : s.Legal) (hly : s.rf.ly.toNat < 144) (hdot : s.rf.dot.toNat = 456) :
    s.blk.px.toNat = 160 := by
  have hstrobes := h.strobes hly (by omega)
  have hpx := h.px_le
  omega

/-- Settles O56: the legal state 376 CLOCKs on is at dot 456 of the same line, where legality fixes the column count, the
mode and the cursor, as it fixes them at dot 80. -/
theorem everyVisibleLineEmitsExactly160Pixels : Obligations.EveryVisibleLineEmitsExactly160Pixels := by
  intro dmas s h ha hly hdot hlen
  obtain ⟨t, ht, hleg, -, hpos⟩ := clocks_legal_position dmas h ha
  rw [hlen] at hpos
  obtain ⟨hlt, hsly, hsdot⟩ := h.position.position_spec
  obtain ⟨-, htly, htdot⟩ := hleg.position.position_spec
  have hline : t.rf.ly = s.rf.ly := BitVec.eq_of_toNat_eq (by omega)
  have hend : t.rf.dot.toNat = 456 := by omega
  have hvis : t.rf.ly.toNat < 144 := by rw [hline]; exact hly
  have hpx0 := h.px_of_scanDot hly hdot
  have hpx := hleg.px_of_lastDot hvis hend
  refine ⟨t, ht, hline, hend, hpx, ?_, ?_⟩
  · rw [hleg.mode_eq, modeOf, if_neg (by omega), if_neg (by omega), if_neg (by omega)]
  · rw [hleg.cursor_eq, h.cursor_eq, hline]
    unfold cursorAt
    rw [if_neg (by omega), if_neg (by omega), if_neg (by omega), if_neg (by omega)]
    omega

/-- How many CLOCKs come before the one that enters line 144, whose position is 65664 (R135, R144). -/
def State.clocksToVBlank (s : State) : Nat := (65664 + 70224 - 1 - s.position) % 70224

/-- CLOCK sets both latches if it is the one that enters line 144, and leaves both alone if it is not. -/
theorem execClock_latches {s t : State} {dma : Bool} (h : s.Legal) (ht : exec (.clock dma) s = .next t) :
    t.blk.frameReady = (s.blk.frameReady || decide (s.clocksToVBlank = 0)) ∧
    t.blk.vblankEntered = (s.blk.vblankEntered || decide (s.clocksToVBlank = 0)) := by
  obtain ⟨henter, hkeep, -⟩ := enteringLine144SetsBothLatches s t dma h.position ht
  obtain ⟨hlt, -, -⟩ := h.position.position_spec
  obtain ⟨-, hly, hdot⟩ := (execClock_legal h ht).position.position_spec
  have hpos := execClock_position h.position ht
  by_cases hzero : s.clocksToVBlank = 0
  · have hat : t.rf.ly.toNat = 144 ∧ t.rf.dot.toNat = 1 := by unfold State.clocksToVBlank at hzero; omega
    obtain ⟨hframe, hvblank, -⟩ := henter hat
    simp [hframe, hvblank, hzero]
  · have hat : ¬(t.rf.ly.toNat = 144 ∧ t.rf.dot.toNat = 1) := by unfold State.clocksToVBlank at hzero; omega
    obtain ⟨hframe, hvblank, -⟩ := hkeep hat
    simp [hframe, hvblank, hzero]

/-- Each CLOCK brings the entry of line 144 one nearer, and the one that enters it starts the count again. -/
theorem execClock_clocksToVBlank {s t : State} {dma : Bool} (h : s.PositionLegal) (ht : exec (.clock dma) s = .next t) :
    s.clocksToVBlank = 0 ∨ s.clocksToVBlank = t.clocksToVBlank + 1 := by
  have hpos := execClock_position h ht
  have hlt := h.position_spec.1
  unfold State.clocksToVBlank
  omega

/-- After a list of CLOCKs each latch is set if it was before, or if the list reaches the entry of line 144. -/
theorem clocks_latches (dmas : List Bool) {s : State} (h : s.Legal) (ha : s.awaitReset = false) :
    ∃ t, clocks dmas s = .next t ∧
      t.blk.frameReady = (s.blk.frameReady || decide (s.clocksToVBlank < dmas.length)) ∧
      t.blk.vblankEntered = (s.blk.vblankEntered || decide (s.clocksToVBlank < dmas.length)) := by
  induction dmas generalizing s with
  | nil => exact ⟨s, rfl, by simp, by simp⟩
  | cons dma rest ih =>
    obtain ⟨u, hu⟩ := execClock_completes h ha dma
    obtain ⟨hframe, hvblank⟩ := execClock_latches h hu
    obtain ⟨t, ht, hframe', hvblank'⟩ := ih (execClock_legal h hu) ((exec_external_frame rfl hu).2 ha)
    have hcount : (decide (s.clocksToVBlank = 0) || decide (u.clocksToVBlank < rest.length)) =
        decide (s.clocksToVBlank < (dma :: rest).length) := by
      have hnear := execClock_clocksToVBlank h.position hu
      rw [← Bool.decide_or, List.length_cons]
      exact decide_eq_decide.2 (by omega)
    refine ⟨t, andThen_eq_next.2 ⟨u, hu, ht⟩, ?_, ?_⟩
    · rw [hframe', hframe, Bool.or_assoc, hcount]
    · rw [hvblank', hvblank, Bool.or_assoc, hcount]

/-- Settles O55, by `clocks_latches`: a frame is longer than any way to line 144, and a list that stops short of position
65664 is not longer than its own way there. -/
theorem aFrameOfClocksSetsFrameReadyOnce : Obligations.AFrameOfClocksSetsFrameReadyOnce := by
  intro dmas s h ha
  obtain ⟨t, ht, hframe, hvblank⟩ := clocks_latches dmas h ha
  refine ⟨t, ht, hframe, hvblank, fun hlen => ?_, fun hshort => ?_⟩
  · have hreach : s.clocksToVBlank < dmas.length := by rw [hlen]; exact Nat.mod_lt _ (by omega)
    simp [hframe, hvblank, hreach]
  · have hreach : ¬ s.clocksToVBlank < dmas.length := by unfold State.clocksToVBlank; omega
    simp [hframe, hvblank, hreach]

end Sys2Proof.Machine
end

section
/-! The sprite scanner (spec/41_sprite_scanner.md): what SCAN selects with and without DMA, what it writes, and what
LOAD_SPRITES hands to the Pipeline. -/

namespace Sys2Proof.Machine

/-! ### What SCAN selects -/

/-- The entry numbers that qualify on the scanline, in table order (R172). -/
def State.qualifying (s : State) : List Nat := (List.range 40).filter fun i => qualifies s.rf (s.oamEntry i)

/-- Without DMA the selection is the first ten qualifying entries in table order: `scanLoop_filter` from an empty set. -/
theorem selection_filter (s : State) :
    (s.selection false).nsel.toNat = min 10 s.qualifying.length ∧
    ∀ j : Fin 10, j.val < (s.selection false).nsel.toNat →
      ∃ i, s.qualifying[j.val]? = some i ∧ (s.selection false).sel[j] = s.oamEntry i := by
  have hempty : s.blk.clearSet.nsel.toNat = 0 := rfl
  exact scanLoop_filter s (List.range 40) [] s.blk.clearSet (by simp [hempty]) (by simp [hempty])

/-- Settles O20: SCAN leaves the set of `selection_filter`, whose `qualifies` and `oamEntry` are by definition the formula of
R172 and the four bytes of the entry. -/
theorem scanSelectsTheFirstTenQualifyingEntries : Obligations.ScanSelectsTheFirstTenQualifyingEntries :=
  fun s => ⟨opScan false s, rfl, selection_filter s⟩

/-- Settles O21: with DMA the selection is the empty set of R171, which is cleared without a look at OAM. -/
theorem scanUnderDmaLeavesNoSprite : Obligations.ScanUnderDmaLeavesNoSprite :=
  fun s => ⟨opScan true s, rfl, rfl, rfl, rfl, fun _ => rfl⟩

/-! ### What SCAN and LOAD_SPRITES write -/

/-- Settles O22: `opScan_blk` names all that SCAN writes, and `selection_spec` bounds the set. -/
theorem scanWritesOnlyTheSpriteSets : Obligations.ScanWritesOnlyTheSpriteSets := by
  intro s dma
  obtain ⟨pipe, hblk, hpipe⟩ := opScan_blk dma s
  obtain ⟨-, hcap, -⟩ := selection_spec s dma
  have hframe : opScan dma s = { s with blk := (opScan dma s).blk } := rfl
  refine ⟨opScan dma s, rfl, ?_, hcap, rfl, ?_⟩
  · rw [hframe, hblk]
  · rw [hblk]
    exact hpipe

/-- Settles O23: opcode 9 is an internal one, which the port ignores (R106), and SCAN is the selection and then
LOAD_SPRITES. -/
theorem loadSpritesReplacesTheCandidates : Obligations.LoadSpritesReplacesTheCandidates := by
  refine ⟨fun _ hop => decode_eq_ok_iff.2 ⟨hop, trivial⟩, fun s w rest hop hs hp => ?_, fun _ _ => rfl, fun s => ?_⟩
  · exact portIgnoresReservedAndInternalWords s w rest hs hp (.inr (by simp [hop]))
  · exact ⟨opLoadSprites s, rfl, rfl, fun _ => Vector.getElem_ofFn _, rfl⟩

end Sys2Proof.Machine
end

section
/-! The pixel pipeline (spec/42_pixel_pipeline.md): the strobes, the window's conditions, the layer under the sprites,
what a sprite and the set of candidates offer at a column, the compositing, and what `Compose` reads. -/

namespace Sys2Proof.Machine

/-! ### The strobes -/

/-- Settles O24: the two branches of `opPipeClock_cases`, with `Compose` for the pixel on a column of the line. -/
theorem pipeClockStallsOrYieldsOnePixel : Obligations.PipeClockStallsOrYieldsOnePixel := by
  intro s hpx
  have hexec : exec .pipeClock s = .next { (opPipeClock s).2 with pixWire := (opPipeClock s).1 } := rfl
  obtain ⟨hbudget, hdraw, hp⟩ | ⟨hno, hp⟩ := opPipeClock_cases s
  · rw [hexec, hp, if_pos ⟨hbudget, hdraw⟩]
    rfl
  · have hyield : ¬(0 < s.blk.stallBudget.toNat ∧ s.drawStall = true) := by
      rintro ⟨hbudget, hdraw⟩
      obtain hzero | hfalse := hno
      · omega
      · exact absurd hdraw (by simp [hfalse])
    rw [hexec, hp, if_neg hyield, pixelAt_of_lt hpx]
    rfl

/-- Settles O26: WINDOW_VISIBLE is one write, of its own wire. -/
theorem windowVisibleReportsAndChangesNothing : Obligations.WindowVisibleReportsAndChangesNothing :=
  ⟨fun _ hop => decode_eq_ok_iff.2 ⟨hop, trivial⟩, fun _ => rfl⟩

/-! ### The window's conditions -/

theorem winActive_eq (s : State) (x : Nat) :
    s.winActive x = (s.rf.ctrl.getLsbD 5 && s.blk.wyLatch && decide (s.rf.wx.toNat ≤ x + 7)) := rfl

theorem winActive_iff (s : State) (x : Nat) :
    s.winActive x = true ↔ s.rf.ctrl.getLsbD 5 = true ∧ s.blk.wyLatch = true ∧ s.rf.wx.toNat ≤ x + 7 := by
  rw [winActive_eq, Bool.and_eq_true, Bool.and_eq_true, decide_eq_true_eq, and_assoc]

/-- Left of `RF.WX - 7` the window is not active. -/
theorem winActive_of_lt {s : State} {x : Nat} (h : x + 7 < s.rf.wx.toNat) : s.winActive x = false := by
  rw [winActive_eq, decide_eq_false (Nat.not_le.2 h), Bool.and_false]

/-- From `RF.WX - 7` on the window is active as its enable and the window-Y latch say. -/
theorem winActive_of_le {s : State} {x : Nat} (h : s.rf.wx.toNat ≤ x + 7) :
    s.winActive x = (s.rf.ctrl.getLsbD 5 && s.blk.wyLatch) := by
  rw [winActive_eq, decide_eq_true h, Bool.and_true]

/-- Settles O27: the conjunction of R199, and on each side of `RF.WX - 7` what is left of it. -/
theorem windowConditionsFollowRule199 : Obligations.WindowConditionsFollowRule199 := by
  intro s x
  refine ⟨winActive_iff s x, fun v hv => ?_, fun y hxy hx => ?_, fun h => winActive_of_lt (by omega), winActive_of_le,
    fun h => winActive_of_le (by omega), fun h hx => winActive_of_lt (by omega)⟩
  · rw [winActive_eq, winActive_eq, hv]
  · obtain ⟨hen, hlatch, hwx⟩ := (winActive_iff s x).1 hx
    exact (winActive_iff s y).2 ⟨hen, hlatch, by omega⟩

/-! ### The layer under the sprites -/

/-- The signed address, over the integers, where it does not wrap (R203). -/
theorem tileAddr_signed_eq (t : Byte) : (tileAddr false t : Int) = 0x1000 + 16 * t.toInt := by
  have hlo : -128 ≤ t.toInt := BitVec.le_toInt t
  exact Int.toNat_of_nonneg (by omega)

/-- Settles O28: the signed index is the unsigned one up to 127 and 256 less from 128 on. -/
theorem tileDataAddressesFollowRule203 : Obligations.TileDataAddressesFollowRule203 := by
  refine ⟨fun _ => rfl, fun t => ?_, rfl, rfl, rfl, rfl⟩
  rw [tileAddr_signed_eq, BitVec.toInt_eq_toNat_cond]
  split_ifs <;> omega

theorem underPixel_blank {s : State} (x : Nat) (hen : s.rf.bgWinEn = false) :
    s.underPixel x = { src := .blank, idx := 0#2, pal := false, prio := false } := by
  simp [State.underPixel, hen]

theorem underPixel_win {s : State} {x : Nat} (hen : s.rf.bgWinEn = true) (hwin : s.winActive x = true) :
    s.underPixel x = { src := .win, idx := s.winIdx x, pal := false, prio := false } := by
  simp [State.underPixel, hen, hwin]

theorem underPixel_bg {s : State} {x : Nat} (hen : s.rf.bgWinEn = true) (hwin : s.winActive x = false) :
    s.underPixel x = { src := .bg, idx := s.bgIdx x, pal := false, prio := false } := by
  simp [State.underPixel, hen, hwin]

/-- Settles O30: one lemma per layer. The statement's `pix` is by definition what `bgIdx` and `winIdx` read: the two
bit-planes at the tile row of the map cell. -/
theorem underLayerFollowsItsRules : Obligations.UnderLayerFollowsItsRules :=
  fun _ x => ⟨underPixel_blank x, underPixel_win, underPixel_bg⟩

/-! ### What a sprite offers -/

theorem spriteCovers_iff (e : ObjEntry) (x : Nat) : spriteCovers e x = true ↔ e.x.toNat ≤ x + 8 ∧ x < e.x.toNat := by
  simp only [spriteCovers, Bool.and_eq_true, decide_eq_true_eq]
  omega

theorem sprPix_of_not_covers {e : ObjEntry} {x : Nat} (s : State) (j : Nat) (h : spriteCovers e x = false) :
    s.sprPix j e x = none := by
  simp [State.sprPix, h]

/-- A shown row outside the sprite's height offers the free value of U3. -/
theorem sprPix_of_row_outside {s : State} {e : ObjEntry} {x : Nat} (j : Nat) (h : spriteCovers e x = true)
    (hrow : shownRow s.rf e < 0 ∨ (s.rf.spriteHeight : Int) ≤ shownRow s.rf e) :
    s.sprPix j e x = Config.staleCandidate s.draws j s.rf s.blk s.env s.mem := by
  simp [State.sprPix, h, hrow]

/-- A shown row inside the sprite's height offers the pixel of its tile row, unless that is transparent (R207). -/
theorem sprPix_of_row_inside {s : State} {e : ObjEntry} {x : Nat} (j : Nat) (h : spriteCovers e x = true)
    (hlo : 0 ≤ shownRow s.rf e) (hhi : shownRow s.rf e < s.rf.spriteHeight) :
    s.sprPix j e x =
      if s.tilePix (spriteRowAddr s.rf e) (spriteCol e x) = 0#2 then none
      else some { idx := s.tilePix (spriteRowAddr s.rf e) (spriteCol e x), pal := e.pal, prio := e.prio } := by
  have hrow : ¬(shownRow s.rf e < 0 ∨ (s.rf.spriteHeight : Int) ≤ shownRow s.rf e) := by omega
  simp [State.sprPix, h, hrow]

/-- The odd number of a tile pair is the one after the even number. -/
theorem tilePair_odd (t : Byte) : (t ||| 0x01#8).toNat = (t &&& 0xFE#8).toNat + 1 := by
  have hor : t ||| 0x01#8 = (t &&& 0xFE#8) ||| 0x01#8 := by
    have hmask : 0xFE#8 = ~~~0x01#8 := rfl
    ext i hi
    simp only [hmask, BitVec.getElem_or, BitVec.getElem_and, BitVec.getElem_not, Bool.or_and_distrib_right,
      Bool.not_or_self, Bool.and_true]
  have hdisjoint : (t &&& 0xFE#8) &&& 0x01#8 = 0#8 := by
    rw [BitVec.and_assoc]
    exact BitVec.and_zero
  have heven := tilePair_le t
  rw [hor, ← BitVec.add_eq_or_of_and_eq_zero _ _ hdisjoint]
  exact BitVec.toNat_add_of_lt (by simp only [BitVec.toNat_ofNat]; omega)

/-- The tile that holds row `r` of a sprite: the even one of the pair above row 8 and the odd one from it on, in 16-unit
mode (R207). -/
def spriteTile (rf : RegFile) (e : ObjEntry) (r : Nat) : Byte :=
  if rf.objH then (if r < 8 then e.tile &&& 0xFE#8 else e.tile ||| 0x01#8) else e.tile

/-- The row address of a sprite by its tile and the row inside it. -/
theorem spriteRowAddr_eq {rf : RegFile} {e : ObjEntry} (h : flippedRow rf e < rf.spriteHeight) :
    spriteRowAddr rf e = 16 * (spriteTile rf e (flippedRow rf e)).toNat + 2 * (flippedRow rf e % 8) := by
  have hodd := tilePair_odd e.tile
  unfold RegFile.spriteHeight at h
  unfold spriteRowAddr spriteTile
  split_ifs at h ⊢ <;> omega

/-- Settles O31: off its columns, with the shown row inside its height, and with it outside. -/
theorem spritePixelFollowsRule207 : Obligations.SpritePixelFollowsRule207 := by
  intro s j e x
  refine ⟨fun hoff => ?_, fun hlo hhi h row r col tile hh hrow hlt hr htile hcol => ?_, fun hlo hhi hout => ?_⟩
  · refine sprPix_of_not_covers s j (Bool.eq_false_iff.2 fun hc => ?_)
    have := (spriteCovers_iff e x).1 hc
    omega
  · have hheight : s.rf.spriteHeight = h := hh.symm
    have hshown : shownRow s.rf e = row := by unfold shownRow; omega
    have hflip : flippedRow s.rf e = r := by rw [hr, flippedRow, hshown, hheight]; rfl
    have haddr : spriteRowAddr s.rf e = 16 * tile.toNat + 2 * (r % 8) := by
      rw [spriteRowAddr_eq (flippedRow_lt (by omega) (by omega)), hflip, htile]
      rfl
    rw [sprPix_of_row_inside j ((spriteCovers_iff e x).2 ⟨hlo, hhi⟩) (by omega) (by omega), haddr, hcol]
    rfl
  · refine sprPix_of_row_outside j ((spriteCovers_iff e x).2 ⟨hlo, hhi⟩) ?_
    unfold shownRow
    omega

/-! ### The candidate that is first in set order -/

theorem slotPix_eq (s : State) (x : Nat) (j : Fin 10) : s.slotPix x j.val = s.sprPix j.val s.blk.pipeSpr[j] x := by
  simp [State.slotPix]

/-- The first number below `n` at which `f` has a value. -/
theorem findSome?_range_eq_some_iff {α : Type} {n : Nat} {f : Nat → Option α} {c : α} :
    (List.range n).findSome? f = some c ↔ ∃ j < n, f j = some c ∧ ∀ i < j, f i = none := by
  induction n with
  | zero => simp
  | succ n ih =>
    rw [List.range_succ, List.findSome?_append, Option.or_eq_some_iff, ih, List.findSome?_eq_none_iff,
      List.findSome?_singleton]
    constructor
    · rintro (⟨j, hj, hc, hfirst⟩ | ⟨hnone, hc⟩)
      · exact ⟨j, by omega, hc, hfirst⟩
      · exact ⟨n, by omega, hc, fun i hi => hnone i (List.mem_range.2 hi)⟩
    · rintro ⟨j, hj, hc, hfirst⟩
      obtain hlt | rfl := Nat.lt_succ_iff_lt_or_eq.1 hj
      · exact .inl ⟨j, hlt, hc, hfirst⟩
      · exact .inr ⟨fun i hi => hfirst i (List.mem_range.1 hi), hc⟩

/-- Settles O32: the first number below `S.NPIPE` whose slot offers a pixel, and each such number is that of a slot. -/
theorem firstSlotInSetOrderSuppliesTheSprite : Obligations.FirstSlotInSetOrderSuppliesTheSprite := by
  intro s x hn
  simp only [← slotPix_eq]
  refine ⟨fun c => ?_, ?_⟩
  · rw [State.sprCand, findSome?_range_eq_some_iff]
    exact ⟨fun ⟨j, hj, hc, hfirst⟩ => ⟨⟨j, by omega⟩, hj, hc, fun i => hfirst i⟩,
      fun ⟨j, hj, hc, hfirst⟩ => ⟨j, hj, hc, fun i hi => hfirst ⟨i, by omega⟩ hi⟩⟩
  · rw [State.sprCand, List.findSome?_eq_none_iff]
    simp only [List.mem_range]
    exact ⟨fun h j => h j, fun h j hj => h ⟨j, by omega⟩ hj⟩

/-! ### Compositing -/

theorem compose_of_sprites_disabled {s : State} (x : Nat) (h : s.rf.objEn = false) : s.compose x = s.underPixel x := by
  unfold State.compose composite
  split <;> simp [h]

theorem compose_of_no_candidate {s : State} {x : Nat} (h : s.sprCand x = none) : s.compose x = s.underPixel x := by
  simp [State.compose, composite, h]

/-- A candidate is hidden only if it has priority 1 and the layer under it an index of 1 to 3 (R210). -/
theorem compose_of_candidate {s : State} {x : Nat} {c : Candidate} (hen : s.rf.objEn = true)
    (hc : s.sprCand x = some c) : s.compose x =
      if c.prio = false ∨ (s.underPixel x).idx = 0#2 then { src := .spr, idx := c.idx, pal := c.pal, prio := c.prio }
      else s.underPixel x := by
  simp [State.compose, composite, hen, hc]

/-- Settles O33: the row of the table by the enable, the candidate and what hides it. -/
theorem compositingFollowsTheTableOfRule210 : Obligations.CompositingFollowsTheTableOfRule210 := by
  intro s x
  refine ⟨compose_of_sprites_disabled x, compose_of_no_candidate, fun c hen hc hp => ?_, fun c hen hc hp hi => ?_,
    fun c hen hc hp hi => ?_⟩ <;> rw [compose_of_candidate hen hc]
  · exact if_pos (.inl hp)
  · exact if_pos (.inr hi)
  · exact if_neg (by simp [hp, hi])

/-! ### What Compose reads -/

section
variable {s t : State} (h : SameComposeInputs s t)
include h

theorem SameComposeInputs.tilePix (a c : Nat) : t.tilePix a c = s.tilePix a c := by
  unfold State.tilePix
  rw [h.vram0, h.vram0]

theorem SameComposeInputs.planePix (sel : Bool) (bx by' : Nat) : t.planePix sel bx by' = s.planePix sel bx by' := by
  unfold State.planePix RegFile.tileSel
  rw [h.tilePix, h.vram0, h.ctrl]

theorem SameComposeInputs.underPixel (x : Nat) : t.underPixel x = s.underPixel x := by
  unfold State.underPixel State.winIdx State.bgIdx RegFile.bgWinEn RegFile.winMap RegFile.bgMap
  rw [h.planePix, h.planePix, winActive_eq, winActive_eq, h.ctrl, h.scx, h.scy, h.ly, h.wx, h.wlc, h.wyLatch]

/-- A sprite whose shown row lies inside its height offers the same: U3's free value is not met. -/
theorem SameComposeInputs.sprPix (j : Nat) {e : ObjEntry} (x : Nat)
    (hlo : 0 ≤ shownRow s.rf e) (hhi : shownRow s.rf e < s.rf.spriteHeight) : t.sprPix j e x = s.sprPix j e x := by
  have hshown : shownRow t.rf e = shownRow s.rf e := by rw [shownRow, h.ly, shownRow]
  have hobjH : t.rf.objH = s.rf.objH := by rw [RegFile.objH, h.ctrl, RegFile.objH]
  have hheight : t.rf.spriteHeight = s.rf.spriteHeight := by rw [RegFile.spriteHeight, hobjH, RegFile.spriteHeight]
  have haddr : spriteRowAddr t.rf e = spriteRowAddr s.rf e := by
    unfold spriteRowAddr flippedRow
    rw [hobjH, hshown, hheight]
  cases hc : spriteCovers e x with
  | false => rw [sprPix_of_not_covers t j hc, sprPix_of_not_covers s j hc]
  | true =>
    rw [sprPix_of_row_inside j hc hlo hhi,
      sprPix_of_row_inside j hc (by rwa [hshown]) (by rwa [hshown, hheight]), haddr, h.tilePix]

theorem SameComposeInputs.slotPix (hrows : s.RowsInHeight) (x : Nat) (j : Fin 10) (hj : j.val < s.blk.npipe.toNat) :
    t.slotPix x j.val = s.slotPix x j.val := by
  obtain ⟨hlo, hhi⟩ := hrows j hj
  rw [slotPix_eq, slotPix_eq, h.pipeSpr]
  exact h.sprPix j.val x (by unfold shownRow; omega) (by unfold shownRow; omega)

theorem SameComposeInputs.sprCand (hn : s.blk.npipe.toNat ≤ 10) (hrows : s.RowsInHeight) (x : Nat) :
    t.sprCand x = s.sprCand x := by
  rw [State.sprCand, State.sprCand, h.npipe, ← List.head?_filterMap, ← List.head?_filterMap]
  refine congrArg List.head? (List.filterMap_congr fun j hj => ?_)
  have hj := List.mem_range.1 hj
  exact h.slotPix hrows x ⟨j, by omega⟩ hj

end

/-- Settles O34: the layer under the sprites, the candidate and the enable of R210 are the same in both states. -/
theorem composeReadsNothingBeyondRule196 : Obligations.ComposeReadsNothingBeyondRule196 := by
  intro s t x hn hrows h
  rw [State.compose, RegFile.objEn, h.underPixel, h.sprCand hn hrows, h.ctrl]
  rfl

end Sys2Proof.Machine
end

section
/-! The pixel renderer (spec/43_pixel_renderer.md): the shade and the path of a pixel, the triplet it becomes, the two
configuration operations, and where CLOCK puts the pixel of a column. -/

namespace Sys2Proof.Machine

/-! ### The colour of a pixel -/

/-- A palette register's shade number by division: bits `2i+1:2i` are digit `i` in base four (R38, R231). -/
theorem shadeOf_toNat (pal : Byte) (i : BitVec 2) : (shadeOf pal i).toNat = pal.toNat / 4 ^ i.toNat % 4 := by
  rw [shadeOf, BitVec.extractLsb'_toNat, Nat.shiftRight_eq_div_pow, Nat.pow_mul]

/-- A sprite pixel selects an object palette by its flag, every other pixel `RF.BGP` (R231). -/
theorem paletteFor_eq (rf : RegFile) (p : Pixel) :
    paletteFor rf p = if p.src = .spr then (if p.pal then rf.obp1 else rf.obp0) else rf.bgp := by
  unfold paletteFor
  cases p.src <;> rfl

/-- The shade table read at the number of a shade. -/
theorem monoRgb_eq {s : State} {p : Pixel} {k : Fin 4} (h : (shadeOf (paletteFor s.rf p) p.idx).toNat = k.val) :
    s.monoRgb p = s.blk.shadeRgb[k] := by
  simp only [State.monoRgb, Block.shade, h, Fin.getElem_fin]

/-- With the colour mode off or the preference 1 a pixel takes the monochrome path (R234). -/
theorem pixelRgb_of_mono {s : State} (h : s.env.colorMode = false ∨ s.blk.monoPref = true) (p : Pixel) :
    s.pixelRgb p = s.monoRgb p := by
  have hpath : s.onColorPath = false := by
    obtain h | h := h <;> simp [State.onColorPath, h]
  simp [State.pixelRgb, hpath]

/-- With the colour mode on and the preference 0 a pixel takes the colour path (R234). -/
theorem pixelRgb_of_colour {s : State} (hmode : s.env.colorMode = true) (hpref : s.blk.monoPref = false) (p : Pixel) :
    s.pixelRgb p = s.colorRgb p := by
  simp [State.pixelRgb, State.onColorPath, hmode, hpref]

/-! ### RENDER_PIXEL -/

/-- Below the end of the frame buffer RENDER_PIXEL stores the pixel's colour and advances the cursor (R230, R232). -/
theorem exec_renderPixel_inside {s : State} (h : s.blk.cursor.toNat < 23040) (idx : BitVec 2) (src : Src)
    (pal prio : Bool) :
    exec (.renderPixel idx src pal prio) s =
      .next (s.putTriplet (s.pixelRgb (pixelOperand idx src pal prio))).advanceCursor := by
  obtain ⟨-, hstore⟩ | ⟨hfull, -⟩ | ⟨hpast, -⟩ := opRenderPixel_cases (pixelOperand idx src pal prio) s
  · exact hstore
  · omega
  · omega

/-- `fb'` is `fb` with the three bytes of `c` written from `a` on: red, green, blue, and every other byte as before
(R232). -/
def WritesTriplet (fb fb' : Memory) (a : Nat) (c : Rgb) : Prop :=
  Memory.byteAt fb' a = some c.r ∧ Memory.byteAt fb' (a + 1) = some c.g ∧ Memory.byteAt fb' (a + 2) = some c.b ∧
  ∀ b, (b < a ∨ a + 2 < b) → Memory.byteAt fb' b = Memory.byteAt fb b

theorem putTriplet_writesTriplet (s : State) (c : Rgb) :
    WritesTriplet s.mem.fb (s.putTriplet c).mem.fb s.tripletAddr c := by
  refine ⟨?_, ?_, ?_, fun b hb => ?_⟩ <;> rw [putTriplet_byteAt]
  · rw [if_pos rfl]
  · rw [if_neg (by omega), if_pos rfl]
  · rw [if_neg (by omega), if_neg (by omega), if_pos rfl]
  · rw [if_neg (by omega), if_neg (by omega), if_neg (by omega)]

/-- Settles O35: the colour is the shade table's at the register's base-four digit, and `putTriplet_writesTriplet` says
where it stands. -/
theorem monochromeRenderWritesTheShadeTriplet : Obligations.MonochromeRenderWritesTheShadeTriplet := by
  intro s idx src pal prio reg k hpath hcursor hreg hk
  have hpal : paletteFor s.rf (pixelOperand idx src pal prio) = reg := (paletteFor_eq _ _).trans hreg.symm
  have hshade : (shadeOf (paletteFor s.rf (pixelOperand idx src pal prio)) idx).toNat = k.val := by
    rw [hpal, shadeOf_toNat, hk]
  have hcolour : s.pixelRgb (pixelOperand idx src pal prio) = s.blk.shadeRgb[k] :=
    (pixelRgb_of_mono hpath _).trans (monoRgb_eq hshade)
  have hnext : (s.blk.cursor + 1#15).toNat = s.blk.cursor.toNat + 1 := by
    simp only [BitVec.toNat_add, BitVec.toNat_ofNat]
    omega
  refine ⟨_, exec_renderPixel_inside hcursor idx src pal prio, rfl, hnext, ?_⟩
  rw [hcolour]
  exact putTriplet_writesTriplet s s.blk.shadeRgb[k]

/-- Settles O36: as on the monochrome path, with the value of ColorPath for the colour. -/
theorem colourRenderWritesTheColorPathTriplet : Obligations.ColourRenderWritesTheColorPathTriplet := by
  intro s idx src pal prio c hmode hpref hcursor hc
  have hcolour : s.pixelRgb (pixelOperand idx src pal prio) = c :=
    (pixelRgb_of_colour hmode hpref _).trans hc.symm
  refine ⟨_, exec_renderPixel_inside hcursor idx src pal prio, rfl, ?_⟩
  rw [hcolour]
  exact putTriplet_writesTriplet s c

/-- Settles O37: the full buffer and past it are the other two cases of `opRenderPixel_cases`. -/
theorem renderOnAFullBufferFaults : Obligations.RenderOnAFullBufferFaults := by
  intro s idx src pal prio
  obtain ⟨hinside, -⟩ | ⟨hfull, h⟩ | ⟨hpast, h⟩ := opRenderPixel_cases (pixelOperand idx src pal prio) s
  · exact ⟨fun _ => by omega, fun _ => by omega⟩
  · exact ⟨fun _ => h, fun _ => by omega⟩
  · exact ⟨fun _ => by omega, fun _ => h⟩

/-! ### SET_PALETTE and SET_MONO_PREF -/

/-- The two low bits of the index are its remainder mod 4 (R103, R238). -/
theorem paletteSlot_toNat (idx4 : BitVec 4) : (paletteSlot idx4).toNat = idx4.toNat % 4 := by
  rw [paletteSlot, BitVec.extractLsb'_toNat, Nat.shiftRight_zero]

/-- The shade table after a write to entry `k` (R238). -/
theorem setShade_shadeRgb (s : State) (k : BitVec 2) (c : Rgb) (j : Fin 4) :
    (s.setShade k c).blk.shadeRgb[j] = if j.val = k.toNat then c else s.blk.shadeRgb[j] := by
  simp only [State.setShade_blk, Fin.getElem_fin, Vector.getElem_set, eq_comm]

/-- Settles O18: `setShade_shadeRgb` at the masked index, and a pixel of that shade reads the entry written. -/
theorem setPaletteWritesTheMaskedEntry : Obligations.SetPaletteWritesTheMaskedEntry := by
  refine ⟨fun w hop => ⟨_, _, _, _, decode_eq_ok_iff.2 ⟨hop, rfl, rfl, rfl, rfl⟩⟩, rfl, fun s idx4 r g b => ?_⟩
  have hentry : ∀ k : Fin 4, (s.setShade (paletteSlot idx4) ⟨r, g, b⟩).blk.shadeRgb[k] =
      if k.val = idx4.toNat % 4 then ⟨r, g, b⟩ else s.blk.shadeRgb[k] := fun k => by
    rw [setShade_shadeRgb, paletteSlot_toNat]
  refine ⟨_, rfl, rfl, hentry, fun p hp => ?_, fun u hu => ?_⟩
  · rw [monoRgb_eq (k := ⟨idx4.toNat % 4, by omega⟩) hp]
    exact (hentry _).trans (if_pos rfl)
  · cases hu
    rfl

/-- Settles O19: SET_MONO_PREF is one write, RESET makes none of the preference, and R234 combines it with the colour
mode. -/
theorem setMonoPrefWritesThePreference : Obligations.SetMonoPrefWritesThePreference := by
  refine ⟨fun w hop => decode_eq_ok_iff.2 ⟨hop, rfl⟩, rfl, fun s pref => ⟨rfl, fun t ht => ?_⟩⟩
  cases ht
  refine ⟨rfl, fun u hu => ?_⟩
  cases hu
  rfl

/-! ### Where CLOCK puts a pixel -/

/-- A CLOCK past the scan that counts a pixel strobed the Pipeline in PixelTransfer: lines 1 to 28 wrote the dot, the
coincidence bit and that mode alone, and it advanced the cursor and stored the colour of the column's pixel. -/
theorem execClock_of_counted {s t : State} {dma : Bool} (h : s.Legal) (ht : exec (.clock dma) s = .next t)
    (hlo : 80 ≤ s.rf.dot.toNat) (hhi : s.rf.dot.toNat < 456) (hpx : t.blk.px.toNat = s.blk.px.toNat + 1) :
    s.beforeTransfer dma =
      { s with rf.dot := s.rf.dot + 1#9, rf.coin := decide (s.rf.ly = s.rf.lyc), rf.mode := .xfer } ∧
    t.blk.cursor = s.blk.cursor + 1#15 ∧
    WritesTriplet s.mem.fb t.mem.fb (3 * s.blk.cursor.toNat)
      ((s.beforeTransfer dma).pixelRgb ((s.beforeTransfer dma).compose s.blk.px.toNat)) := by
  obtain ⟨-, u, hu, rfl⟩ := execClock_eq_next.1 ht
  have hready := beforeTransfer_ready h dma
  have hbefore : s.beforeTransfer dma = { s with
      rf.dot := s.rf.dot + 1#9
      rf.coin := decide (s.rf.ly = s.rf.lyc)
      rf.mode := (s.beforeTransfer dma).rf.mode } := by
    have hdot : BitVec.ofNat 9 (s.rf.dot.toNat + 1) = s.rf.dot + 1#9 := by
      rw [BitVec.ofNat_add, BitVec.ofNat_toNat, BitVec.setWidth_eq]
    rw [beforeTransfer_of_not_scan (by omega), if_neg (by omega), hdot]
    rfl
  have hblk : (s.beforeTransfer dma).blk = s.blk := by rw [hbefore]
  have hmem : (s.beforeTransfer dma).mem = s.mem := by rw [hbefore]
  obtain ⟨-, ⟨-, -, hkeep, -⟩ | ⟨hmode, hcursor, -, -, hstore⟩⟩ := transferDot_frame hu
  · rw [State.answer_blk, hkeep, hblk] at hpx
    omega
  · obtain ⟨hcolumn, hroom⟩ := hready.cursor_lt hmode
    rw [hmode] at hbefore
    refine ⟨hbefore, by rw [State.answer_blk, hcursor, hblk], ?_⟩
    obtain ⟨-, hput⟩ | ⟨hpast, -⟩ := hstore
    · rw [State.answer_mem, hput, pixelAt_of_lt hcolumn, ← hblk, ← hmem]
      exact putTriplet_writesTriplet _ _
    · omega

/-- On a visible line in PixelTransfer the cursor of a ready state is row-major: `160 * RF.LY + S.PX` (R236). -/
theorem State.ReadyToStrobe.cursor_rowMajor {s : State} (h : s.ReadyToStrobe) (hm : s.rf.mode = .xfer) :
    s.rf.ly.toNat < 144 ∧ s.blk.px.toNat < 160 ∧ s.blk.cursor.toNat = 160 * s.rf.ly.toNat + s.blk.px.toNat := by
  obtain ⟨hly, hdot, hpx⟩ := h.mode_eq_xfer_iff.1 hm
  refine ⟨hly, hpx, ?_⟩
  rw [h.cursor_eq, cursorAt, if_neg (by omega), if_neg (by omega)]

/-- Settles O48: `execClock_of_counted`, with the cursor where `cursor_rowMajor` has it. -/
theorem everyPixelLandsAtItsRowMajorTriplet : Obligations.EveryPixelLandsAtItsRowMajorTriplet := by
  intro s m t dma h hm ht hlo hhi hpx
  obtain ⟨hbefore, hcursor, hwrites⟩ := execClock_of_counted h ht hlo hhi hpx
  have hplace := (beforeTransfer_ready h dma).cursor_rowMajor (by rw [hbefore])
  rw [← hm] at hbefore hwrites hplace
  have hly : m.rf.ly = t.rf.ly := by rw [(execClock_dot_ly hhi ht).2, hbefore]
  have hblk : m.blk = s.blk := by rw [hbefore]
  rw [hly, hblk] at hplace
  obtain ⟨hline, hcolumn, haddr⟩ := hplace
  refine ⟨hline, by omega, haddr, ?_, hbefore, ?_⟩
  · simp only [hcursor, BitVec.toNat_add, BitVec.toNat_ofNat]
    omega
  · rw [← haddr]
    exact hwrites

end Sys2Proof.Machine
end

section
/-! No exceptions (spec/60_exceptions.md): the block waits where nothing is presented (R261), PIPE_CLOCK goes on past the
last column, and every operation completes but for the two stops that U6 and U17 rule (R250). -/

namespace Sys2Proof.Machine

/-! ### Nothing presented -/

/-- Settles O9: of all that a step with no strobe waiting can do, holding the state is the one case with nothing
pending. -/
theorem stepHoldsStateWhenNothingIsPresented : Obligations.StepHoldsStateWhenNothingIsPresented := by
  intro s hs hp
  obtain ⟨-, hidle⟩ | ⟨_, _, _, htaken, -⟩ | ⟨_, _, htaken, -⟩ | ⟨_, _, htaken, -⟩ := step_cases hs
  · exact hidle
  all_goals
    rw [hp] at htaken
    cases htaken

/-! ### PIPE_CLOCK past the last column -/

/-- Past the columns of R196 the pixel of a strobe is the free one of notes/assumptions/17.md. -/
theorem pixelAt_of_ge {s : State} {x : Nat} (h : 160 ≤ x) :
    s.pixelAt x = Config.pixelPastLine s.draws s.rf s.blk s.env s.mem :=
  if_neg (Nat.not_lt.2 h)

/-- PIPE_CLOCK run on its own at any column: a stall, or the pixel of the column on the wire (R192). -/
theorem exec_pipeClock (s : State) :
    exec .pipeClock s = .next
      (if 0 < s.blk.stallBudget.toNat ∧ s.drawStall = true then { s.stall with pixWire := none }
      else { s.yielded with pixWire := some (s.pixelAt s.blk.px.toNat) }) := by
  simp only [exec, execPipeClock, opPipeClock, Bool.and_eq_true, decide_eq_true_eq]
  split_ifs <;> rfl

/-- Settles O25: `exec_pipeClock` asks nothing of the column, and past 159 its pixel is the free one. -/
theorem pipeClockPastTheLastColumnYieldsAFreePixel : Obligations.PipeClockPastTheLastColumnYieldsAFreePixel := by
  intro s hpx
  rw [exec_pipeClock, pixelAt_of_ge hpx]
  rfl

/-! ### The two ruled stops -/

/-- An operation behind the gate of U6 that would complete stops only where the machine awaits a RESET. -/
theorem afterReset_completes_or_stops (s t : State) :
    (∃ u, afterReset s (.next t) = .next u) ∨
    (afterReset s (.next t) = .fault .beforeReset ∧ s.awaitReset = true) := by
  cases ha : s.awaitReset
  · exact .inl ⟨t, afterReset_ready ha _⟩
  · exact .inr ⟨afterReset_waiting ha _, rfl⟩

/-- CLOCK stops where its transfer dot does. -/
theorem execClock_of_transferDot_fault {s : State} {dma : Bool} {r : Fault} (h : s.awaitReset = false)
    (hr : (s.beforeTransfer dma).transferDot = .fault r) : exec (.clock dma) s = .fault r := by
  rw [exec, execClock, afterReset_ready h, hr]
  rfl

/-- The transfer dot completes, or stops in PixelTransfer on a full buffer. -/
theorem transferDot_completes_or_stops (s : State) :
    (∃ t, s.transferDot = .next t) ∨
    (s.transferDot = .fault .cursorOverrun ∧ s.rf.mode = .xfer ∧ s.blk.cursor.toNat = 23040) := by
  obtain ⟨-, h⟩ | ⟨-, -, h⟩ | ⟨-, -, -, h⟩ | ⟨hmode, hcursor, h⟩ | ⟨-, -, -, h⟩ := transferDot_cases s
  · exact .inl ⟨_, h⟩
  · exact .inl ⟨_, h⟩
  · exact .inl ⟨_, h⟩
  · exact .inr ⟨h, hmode, hcursor⟩
  · exact .inl ⟨_, h⟩

/-- CLOCK completes, stops where a RESET is awaited, or stops on a full buffer, which it meets only where it starts no
line: a CLOCK that starts one reaches no PixelTransfer. -/
theorem execClock_completes_or_stops (dma : Bool) (s : State) :
    (∃ t, exec (.clock dma) s = .next t) ∨
    (exec (.clock dma) s = .fault .beforeReset ∧ s.awaitReset = true) ∨
    (exec (.clock dma) s = .fault .cursorOverrun ∧ s.blk.cursor.toNat = 23040 ∧
      s.awaitReset = false ∧ s.rf.dot.toNat ≠ 456) := by
  cases ha : s.awaitReset
  · obtain ⟨u, hu⟩ | ⟨hstop, hmode, hcursor⟩ := transferDot_completes_or_stops (s.beforeTransfer dma)
    · exact .inl ⟨_, execClock_of_transferDot ha hu⟩
    · obtain ⟨hdot, hsame⟩ := beforeTransfer_xfer hmode
      rw [hsame] at hcursor
      exact .inr (.inr ⟨execClock_of_transferDot_fault ha hstop, hcursor, rfl, hdot⟩)
  · exact .inr (.inl ⟨afterReset_waiting ha _, rfl⟩)

/-- RENDER_PIXEL completes, or stops on a full buffer. -/
theorem opRenderPixel_completes_or_stops (p : Pixel) (s : State) :
    (∃ t, opRenderPixel p s = .next t) ∨
    (opRenderPixel p s = .fault .cursorOverrun ∧ s.blk.cursor.toNat = 23040) := by
  obtain ⟨-, h⟩ | ⟨hfull, h⟩ | ⟨-, h⟩ := opRenderPixel_cases p s
  · exact .inl ⟨_, h⟩
  · exact .inr ⟨h, hfull⟩
  · exact .inl ⟨_, h⟩

/-- Every operation completes, or makes one of the two stops: before RESET (U6), or on a full buffer (U17). -/
theorem exec_completes_or_stops (i : Instr) (s : State) :
    (∃ t, exec i s = .next t) ∨
    (exec i s = .fault .beforeReset ∧ s.awaitReset = true ∧
      ((∃ dma, i = .clock dma) ∨ i = .rdFrameReady ∨ i = .rdVBlank)) ∨
    (exec i s = .fault .cursorOverrun ∧ s.blk.cursor.toNat = 23040 ∧
      ((∃ dma, i = .clock dma ∧ s.awaitReset = false ∧ s.rf.dot.toNat ≠ 456) ∨
       ∃ idx src pal prio, i = .renderPixel idx src pal prio)) := by
  cases i with
  | clock dma =>
    obtain h | ⟨hstop, ha⟩ | ⟨hstop, hcursor, ha, hdot⟩ := execClock_completes_or_stops dma s
    · exact .inl h
    · exact .inr (.inl ⟨hstop, ha, .inl ⟨dma, rfl⟩⟩)
    · exact .inr (.inr ⟨hstop, hcursor, .inl ⟨dma, rfl, ha, hdot⟩⟩)
  | rdFrameReady =>
    obtain h | ⟨hstop, ha⟩ := afterReset_completes_or_stops s s.takeFrameReady
    · exact .inl h
    · exact .inr (.inl ⟨hstop, ha, .inr (.inl rfl)⟩)
  | rdVBlank =>
    obtain h | ⟨hstop, ha⟩ := afterReset_completes_or_stops s s.takeVBlankEntered
    · exact .inl h
    · exact .inr (.inl ⟨hstop, ha, .inr (.inr rfl)⟩)
  | renderPixel idx src pal prio =>
    obtain h | ⟨hstop, hcursor⟩ := opRenderPixel_completes_or_stops (pixelOperand idx src pal prio) s
    · exact .inl h
    · exact .inr (.inr ⟨hstop, hcursor, .inr ⟨idx, src, pal, prio, rfl⟩⟩)
  | reset | setPalette | setMonoPref | scan | loadSprites | pipeClock | windowVisible => exact .inl ⟨_, rfl⟩

/-- Settles O60: `exec_completes_or_stops` names both stops, and neither is met where no RESET is awaited and the cursor
is not 23040. -/
theorem everyOperationIsTotal : Obligations.EveryOperationIsTotal := by
  refine fun i s => ⟨fun ha hcursor => ?_, exec_completes_or_stops i s⟩
  obtain h | ⟨-, hwait, -⟩ | ⟨-, hfull, -⟩ := exec_completes_or_stops i s
  · exact h
  · exact absurd hwait (by simp [ha])
  · exact absurd hfull hcursor

end Sys2Proof.Machine
end

section
/-! Power-on and RESET (spec/70_reset_and_hazards.md): what the power cycle leaves, what the wait for RESET stops (U6), and
that RESET alone ends it (R271, R274). -/

namespace Sys2Proof.Machine

/-! ### Power-on -/

/-- The shade table at power-on, entry by entry (R56). -/
theorem Block.reset_shadeRgb : ∀ k : Fin 4, Block.reset.shadeRgb[k] = Config.shadeRgbDefault k
  | 0 | 1 | 2 | 3 => rfl

/-- Settles O59: the power cycle is a host move (`step_host`), and RESET writes no host-owned element. -/
theorem powerOnLeavesHostRegistersFree : Obligations.PowerOnLeavesHostRegistersFree :=
  fun _ _ hs hp => ⟨_, _, step_host hs hp, rfl, rfl, rfl, rfl, rfl, rfl, hs⟩

/-! ### The wait for RESET -/

/-- Only RESET writes the wait: every other operation that completes leaves it as it is. -/
theorem exec_awaitReset {i : Instr} (hi : i ≠ .reset) {s t : State} (ht : exec i s = .next t) :
    t.awaitReset = s.awaitReset := by
  cases i with
  | reset => exact absurd rfl hi
  | clock => rw [execClock_frame ht]
  | rdFrameReady | rdVBlank =>
    obtain ⟨-, h⟩ := afterReset_eq_next.1 ht
    cases h; rfl
  | setPalette | setMonoPref | scan | loadSprites | windowVisible => cases ht; rfl
  | pipeClock =>
    cases ht
    obtain ⟨-, -, h⟩ | ⟨-, h⟩ := opPipeClock_cases s <;> rw [h] <;> rfl
  | renderPixel idx src pal prio =>
    obtain ⟨-, h⟩ | ⟨-, h⟩ | ⟨-, h⟩ := opRenderPixel_cases (pixelOperand idx src pal prio) s <;>
      cases h.symm.trans ht <;> rfl

/-- No host move ends the wait. -/
theorem hostMove_keeps_wait (m : HostMove) {s : State} (ha : s.awaitReset = true) : (hostMove m s).awaitReset = true := by
  by_cases hm : m = .powerCycle
  · rw [hm]
    rfl
  · rw [hostMove_frame_of_ne_powerCycle hm]
    exact ha

theorem fetch_awaitReset (s : State) : (fetch s).2.awaitReset = s.awaitReset := by
  unfold fetch
  split
  · rfl
  · split <;> rfl

/-- A step that does not run RESET leaves a waiting machine waiting, whatever it takes. -/
theorem step_keeps_wait {s t : State} (ha : s.awaitReset = true) (hreset : (fetch s).1 ≠ .run .reset)
    (ht : step s = .next t) : t.awaitReset = true := by
  have hu := (fetch_awaitReset s).trans ha
  rcases hfetch : fetch s with ⟨taken, u⟩
  rw [hfetch] at hu hreset
  simp only [step, hfetch] at ht
  cases taken with
  | run i =>
    have hi : i ≠ .reset := fun h => hreset (congrArg Fetched.run h)
    exact (exec_awaitReset hi ht).trans hu
  | moved m => cases ht; exact hostMove_keeps_wait m hu
  | ignored | idle => cases ht; exact hu

/-- Settles O12: the power cycle is a host move, the gate of U6 stops the three commands while the machine waits
(`afterReset_waiting`), `step_keeps_wait` says that only RESET ends the wait, and RESET leads to a legal state, from which
every external operation completes. -/
theorem powerOnThenOnlyResetRestartsTheClock : Obligations.PowerOnThenOnlyResetRestartsTheClock := by
  refine ⟨fun s rest hs hp => ?_, fun s ha => ?_, fun s t => step_keeps_wait, fun s => ?_⟩
  · exact ⟨_, step_host hs hp, rfl, rfl, Block.reset_shadeRgb, rfl, fun _ => ⟨rfl, rfl, rfl, rfl⟩⟩
  · exact ⟨fun _ => afterReset_waiting ha _, afterReset_waiting ha _, afterReset_waiting ha _⟩
  · obtain ⟨u, hu, hready⟩ : ∃ u, exec .reset s = .next u ∧ u.awaitReset = false := ⟨_, rfl, rfl⟩
    have hcompletes : ∀ i : Instr, i.external = true → Completes (exec i u) :=
      fun _ hx => exec_external_completes hx (execReset_legal hu) hready
    refine ⟨u, hu, hready, hcompletes _ rfl, hcompletes _ rfl, fun dma hfault => ?_⟩
    obtain ⟨v, hv⟩ := hcompletes (.clock dma) rfl
    cases hfault.symm.trans hv

end Sys2Proof.Machine
end
